-- ==== Sys2Proof/Word.lean ====
section
/-! DEFINITION. The bit strings of ZPTG (spec/00_scope.md R8). The block has no bytes and no machine word
(spec/20_memory.md R34): its values are bit strings and registers of fixed width, each given where it stands. -/

namespace Sys2Proof

/-- A bit string, written left to right: the head is position 0, the most significant bit, the bit sent first (R8). -/
abbrev Bits := List Bool

end Sys2Proof
end

