-- ==== Sys2Proof/Config.lean ====
section
/-! DEFINITION. The block's read-only configuration (spec/10_state.md R20, spec/00_scope.md R5, R6), the parameters the
spec leaves OPEN as constants without a value, and the free values. The documented
values stand in Sys2Proof/Decode.lean. -/

namespace Sys2Proof

/-- The five-entry timing table `TT`, microseconds (R5, R20, R30). -/
structure TimingTable where
  /-- `TT[0]`, start-marker high. -/
  syncHigh : BitVec 32
  /-- `TT[1]`, start-marker low. -/
  syncLow : BitVec 32
  /-- `TT[2]`, high time of a 0 bit. -/
  zero : BitVec 32
  /-- `TT[3]`, high time of a 1 bit. -/
  one : BitVec 32
  /-- `TT[4]`, low time after every bit. -/
  gap : BitVec 32
deriving DecidableEq, Repr

/-- The radio chip's mode, state of the environment (spec/10_state.md R22). -/
inductive RadioMode where
  | normal
  | direct
deriving DecidableEq, Repr, Inhabited

/-- The block's configuration (R20), with the parameters of R6 that a rule uses. -/
structure Configuration where
  tt : TimingTable
  /-- `PROTOCOL_ID`, position 0 is bit 16 by significance. -/
  protocolId : BitVec 17
  baseRaise : BitVec 32
  baseLower : BitVec 32
  basePause : BitVec 32
  codeRaise : BitVec 2
  codeLower : BitVec 2
  codePause : BitVec 2
  /-- `HAS_RESOLVE`: whether the RESOLVE front end is built (R6, D14). -/
  hasResolve : Bool
  /-- `TICKS_PER_US` (R6, R21). -/
  ticksPerUs : Nat
deriving DecidableEq, Repr

/-- OPEN (R6, R85, D15): the base counter of RAISE. -/
opaque Config.openBaseRaise : BitVec 32
/-- OPEN (R6, R85, D15): the base counter of LOWER. -/
opaque Config.openBaseLower : BitVec 32
/-- OPEN (R6, R85, D15): the base counter of PAUSE. -/
opaque Config.openBasePause : BitVec 32
/-- OPEN (R6, R85, D15): the action code of RAISE. -/
opaque Config.openCodeRaise : BitVec 2
/-- OPEN (R6, R85, D15): the action code of LOWER. -/
opaque Config.openCodeLower : BitVec 2
/-- OPEN (R6, R85, D15): the action code of PAUSE. -/
opaque Config.openCodePause : BitVec 2
/-- OPEN (R6, D10): clock ticks per microsecond. -/
opaque Config.openTicksPerUs : Nat
/-- Free value (R22, U7; log 5): the mode the controller leaves behind when it answers `fail`, for the n-th draw. -/
opaque Config.radioModeAfterFail : Nat → RadioMode
/-- Free value (R111, U18; log 6): the mode after a restore the controller does not honour, for the n-th draw. -/
opaque Config.radioModeAfterRestore : Nat → RadioMode

end Sys2Proof
end

