-- ==== Sys2Proof/Syntax.lean ====
section
/-! DEFINITION. The operations of ZPTG: one constructor of `Instr` for each row of spec/opcode_table.json (spec/30_encoding.md
R60), the command records (R51, R52), and the formats an operation is presented in (R45). -/

namespace Sys2Proof

/-- CMD, the operands of TRANSMIT at the ports' widths (R51, spec/10_state.md R26). -/
structure Cmd where
  base : BitVec 32
  idx : BitVec 4
  pid : BitVec 17
  act : BitVec 2
  rep : BitVec 8
deriving DecidableEq, Repr

/-- RCMD, the operands of RESOLVE (R52): the action's number, the device index, the repeat count. -/
structure RCmd where
  action : BitVec 2
  idx : BitVec 4
  rep : BitVec 8
deriving DecidableEq, Repr

/-- The three actions of the source's Command (R52). -/
inductive Action where
  | raise
  | lower
  | pause
deriving DecidableEq, Repr

/-- The five kinds of segment, the sequencer's whole instruction set (R55). -/
inductive SegKind where
  | syncH
  | syncL
  | bit0H
  | bit1H
  | gapL
deriving DecidableEq, Repr

/-- The operations (R60). Operands of the abstract functions keep the abstract types (a value of any size, a bit string of
any length: R65, R75, R78); operands that exist only at the ports have the ports' widths (R26). -/
inductive Instr where
  /-- ENC, `encodeUnsigned(value, width)` (R65). -/
  | enc (value width : Nat)
  /-- ENC4 (R67). -/
  | enc4 (v : Nat)
  /-- ENC9 (R68). -/
  | enc9 (v : Nat)
  /-- FRAME, the 41-bit frame by its four variable fields (R46). -/
  | frame (d : BitVec 4) (p : BitVec 17) (c : BitVec 9) (a : BitVec 2)
  /-- BUILD, the abstract function (R75, R78). -/
  | build (base idx : Nat) (pid act : Bits)
  /-- RESOLVE (R83). -/
  | resolve (action : BitVec 2) (idx : BitVec 4) (rep : BitVec 8)
  /-- TRANSMIT (R90). -/
  | transmit (base : BitVec 32) (idx : BitVec 4) (pid : BitVec 17) (act : BitVec 2) (rep : BitVec 8)
  /-- SYNC_H, start-marker high (R98). -/
  | syncH
  /-- SYNC_L, start-marker low (R99). -/
  | syncL
  /-- BIT0_H, the high part of a 0 bit (R100). -/
  | bit0H
  /-- BIT1_H, the high part of a 1 bit (R101). -/
  | bit1H
  /-- GAP_L, the low part of every bit (R102). -/
  | gapL
  /-- EMIT_SYNC (R104). -/
  | emitSync
  /-- EMIT_BIT(b), the cell of frame position b (R105). -/
  | emitBit (b : Fin 41)
  /-- EMIT_FRAME (R106). -/
  | emitFrame
  /-- RADIO_ENTER (R110). -/
  | radioEnter
  /-- RADIO_RESTORE (R111). -/
  | radioRestore
  /-- EXCL_ENTER (R112). -/
  | exclEnter
  /-- EXCL_EXIT (R113). -/
  | exclExit
  /-- GPIO_HIGH (R114). -/
  | gpioHigh
  /-- GPIO_LOW (R114). -/
  | gpioLow
  /-- SLEEP_US (R115). -/
  | sleepUs (d : BitVec 32)
deriving DecidableEq, Repr

/-- The format an operation is presented in: the column "format" of spec/opcode_table.json. No bit of a string says which
format it is (R45: "no mode bit that changes decoding"), so the format goes with the string. Operations without a bit
pattern have a format each; an operand that the table gives as an argument of the format (ENC's width, EMIT_BIT's position)
is one here too (log 20). -/
inductive Format where
  /-- FUNC(value,width): ENC at a width (R65); the string is the value, of any length, most significant bit first. -/
  | func (width : Nat)
  | func4
  | func9
  | frame41
  /-- CMD without r, 55 bits. -/
  | buildOps
  | rcmd
  | cmd
  | seg33
  /-- EMIT_SYNC, no bits. -/
  | macroSync
  /-- MACRO(b): EMIT_BIT at a frame position (R105; R32: 0 to 40), no bits. -/
  | macroBit (b : Fin 41)
  /-- EMIT_FRAME, no bits. -/
  | macroFrame
  /-- RADIO_ENTER, no bits. -/
  | callEnter
  /-- RADIO_RESTORE, no bits. -/
  | callRestore
  | signal
  | gpio1
  | us32
deriving DecidableEq, Repr

/-- An operation as it is presented: its format and its bit string. -/
structure Request where
  fmt : Format
  bits : Bits
deriving DecidableEq, Repr

/-- Why a presented bit string is no operation of its format. -/
inductive DecodeError where
  /-- The string is not of the format's one length (R45). -/
  | wrongLength (fmt : Format)
  /-- ENC at width 0: the width is "a positive integer" (R65). -/
  | zeroWidth
  /-- A frame with a 1 in a reserved position: "not a ZPTG frame" (R48). -/
  | reservedNonzero
  /-- A SEG33 word that is none of the five (R56). -/
  | illegalSegment
deriving DecidableEq, Repr

end Sys2Proof
end

