-- ==== Sys2Proof/WellFormed.lean ====
section
/-! DEFINITION. Which terms of `Instr` fit the block's formats (spec/30_encoding.md R45 to R52). A term that does not fit is
still an operand of the abstract function (R65, R67, R75, R78), and has its meaning; it has no encoding. -/

namespace Sys2Proof

/-- `i` fits its format: ENC at a positive width (R65), ENC4 and ENC9 with a value in range (R67, R68), BUILD with operands of
the ports' widths (R75). -/
def Instr.wf : Instr → Bool
  | .enc _ w => decide (0 < w)
  | .enc4 v => decide (v < 16)
  | .enc9 v => decide (v < 512)
  | .frame _ _ _ _ => true
  | .build base idx pid act =>
      decide (base < 2 ^ 32) && decide (idx < 16) && decide (pid.length = 17) && decide (act.length = 2)
  | .resolve _ _ _ => true
  | .transmit _ _ _ _ _ => true
  | .syncH => true
  | .syncL => true
  | .bit0H => true
  | .bit1H => true
  | .gapL => true
  | .emitSync => true
  | .emitBit _ => true
  | .emitFrame => true
  | .radioEnter => true
  | .radioRestore => true
  | .exclEnter => true
  | .exclExit => true
  | .gpioHigh => true
  | .gpioLow => true
  | .sleepUs _ => true

end Sys2Proof
end

