-- ==== Sys2Proof/Decode.lean ====
section
/-! DEFINITION. Bit strings and numbers (spec/00_scope.md R8, spec/30_encoding.md R47), the documented configuration (R5,
R20), the decoder of presented operations, total and rejecting by name, the encoder (R46, R51, R52, R54, R55 and the
patterns of spec/opcode_table.json), and the host's `decodeTableWord`. -/

namespace Sys2Proof

/-! ### Bit strings and numbers -/

/-- The `w` low bits of `v`, most significant first: position `p` holds bit `w-1-p` of `v` (R8, R47). -/
def bitsOf : Nat → Nat → Bits
  | 0, _ => []
  | w + 1, v => v.testBit w :: bitsOf w v

/-- `val(A)`: the unsigned integer a bit string spells, most significant bit first (R8). -/
def valOf : Bits → Nat
  | [] => 0
  | b :: bs => b.toNat * 2 ^ bs.length + valOf bs

/-- `A[p:q]` with `len = q - p + 1` (R8). -/
def field (start len : Nat) (bs : Bits) : Bits := (bs.drop start).take len

/-- A field of a bit string as a register of its width. -/
def fieldBV (start len : Nat) (bs : Bits) : BitVec len := BitVec.ofNat len (valOf (field start len bs))

/-- How many bits the binary numeral of a number has; 0 has none. -/
def numeralLength (v : Nat) : Nat := if v = 0 then 0 else Nat.log2 v + 1

/-! ### The documented configuration -/

/-- The documented timing constants (R5, R20). -/
def TimingTable.documented : TimingTable where
  syncHigh := 4000
  syncLow := 4000
  zero := 642
  one := 1300
  gap := 750

/-- The configured constants (R20, R24): the documented values where the source gives one, the OPEN constants elsewhere
(log 22). -/
def Configuration.documented : Configuration where
  tt := .documented
  protocolId := 0b00001001110011111#17
  baseRaise := Config.openBaseRaise
  baseLower := Config.openBaseLower
  basePause := Config.openBasePause
  codeRaise := Config.openCodeRaise
  codeLower := Config.openCodeLower
  codePause := Config.openCodePause
  hasResolve := true
  ticksPerUs := Config.openTicksPerUs

/-! ### Segments -/

/-- The level a segment drives: 1 is high (R55, R98 to R102). -/
def SegKind.level : SegKind → Bool
  | .syncH => true
  | .syncL => false
  | .bit0H => true
  | .bit1H => true
  | .gapL => false

/-- Which entry of `TT` a segment reads (R97). -/
def TimingTable.entry (tt : TimingTable) : SegKind → BitVec 32
  | .syncH => tt.syncHigh
  | .syncL => tt.syncLow
  | .bit0H => tt.zero
  | .bit1H => tt.one
  | .gapL => tt.gap

/-- The operation of a segment kind (R55). -/
def SegKind.instr : SegKind → Instr
  | .syncH => .syncH
  | .syncL => .syncL
  | .bit0H => .bit0H
  | .bit1H => .bit1H
  | .gapL => .gapL

/-- The SEG33 word of a segment: the level, then the duration (R54); it depends on the timing table (R60). -/
def segWord (tt : TimingTable) (k : SegKind) : Bits := k.level :: bitsOf 32 (tt.entry k).toNat

/-- The side condition under which SEG33 words tell the five operations apart (R55). -/
def TimingTable.distinct (tt : TimingTable) : Bool :=
  tt.syncHigh != tt.zero && tt.syncHigh != tt.one && tt.zero != tt.one && tt.syncLow != tt.gap

/-- The segment a SEG33 word names; none for any other word (R56). R55 (and U12) calls a train of a timing table that is not
`distinct` not decodable, and does not say what a decoder then makes of a word that two kinds share: that it is read as the
first of them in R55's order is the model's choice (log 34, DESIGN CHOICE). -/
def segOfWord (tt : TimingTable) (bs : Bits) : Option SegKind :=
  [SegKind.syncH, .syncL, .bit0H, .bit1H, .gapL].find? (fun k => segWord tt k == bs)

/-! ### The decoder -/

/-- The number of bits of a format (R45 and the table's patterns); none for ENC, whose value has no size limit (R65). -/
def Format.length? : Format → Option Nat
  | .func _ => none
  | .func4 => some 4
  | .func9 => some 9
  | .frame41 => some 41
  | .buildOps => some 55
  | .rcmd => some 14
  | .cmd => some 63
  | .seg33 => some 33
  | .macroSync => some 0
  | .macroBit _ => some 0
  | .macroFrame => some 0
  | .callEnter => some 0
  | .callRestore => some 0
  | .signal => some 1
  | .gpio1 => some 1
  | .us32 => some 32

/-- The string has the format's length, where the format has one. -/
def Format.fits (f : Format) (bs : Bits) : Bool :=
  match f.length? with
  | some n => bs.length == n
  | none => true

/-- The reserved positions 0 to 2 and 24 to 29 hold 0 (R48). -/
def reservedClear (bs : Bits) : Bool :=
  field 0 3 bs == [false, false, false] && field 24 6 bs == [false, false, false, false, false, false]

/-- FRAME41 (R46); with a 1 in a reserved position it is not a ZPTG frame (R48). -/
def decodeFrame (bs : Bits) : Except DecodeError Instr :=
  if reservedClear bs then
    .ok (.frame (fieldBV 3 4 bs) (fieldBV 7 17 bs) (fieldBV 30 9 bs) (fieldBV 39 2 bs))
  else .error .reservedNonzero

/-- The operation a string of the right length stands for in its format. -/
def decodeFields (tt : TimingTable) (f : Format) (bs : Bits) : Except DecodeError Instr :=
  match f with
  | .func w => if 0 < w then .ok (.enc (valOf bs) w) else .error .zeroWidth
  | .func4 => .ok (.enc4 (valOf bs))
  | .func9 => .ok (.enc9 (valOf bs))
  | .frame41 => decodeFrame bs
  | .buildOps => .ok (.build (valOf (field 0 32 bs)) (valOf (field 32 4 bs)) (field 36 17 bs) (field 53 2 bs))
  | .rcmd => .ok (.resolve (fieldBV 0 2 bs) (fieldBV 2 4 bs) (fieldBV 6 8 bs))
  | .cmd =>
      .ok (.transmit (fieldBV 0 32 bs) (fieldBV 32 4 bs) (fieldBV 36 17 bs) (fieldBV 53 2 bs) (fieldBV 55 8 bs))
  | .seg33 =>
      match segOfWord tt bs with
      | some k => .ok k.instr
      | none => .error .illegalSegment
  | .macroSync => .ok .emitSync
  | .macroBit b => .ok (.emitBit b)
  | .macroFrame => .ok .emitFrame
  | .callEnter => .ok .radioEnter
  | .callRestore => .ok .radioRestore
  | .signal => .ok (if bs == [true] then .exclEnter else .exclExit)
  | .gpio1 => .ok (if bs == [true] then .gpioHigh else .gpioLow)
  | .us32 => .ok (.sleepUs (fieldBV 0 32 bs))

/-- The decoder: total on any string of any format, refusing by name. SEG33 words are read with the timing table in force
(R60). -/
def decode (tt : TimingTable) (q : Request) : Except DecodeError Instr :=
  if q.fmt.fits q.bits then decodeFields tt q.fmt q.bits else .error (.wrongLength q.fmt)

/-! ### The encoder -/

/-- FRAME41 by its fields (R46). -/
def encodeFrame (d : BitVec 4) (p : BitVec 17) (c : BitVec 9) (a : BitVec 2) : Bits :=
  [false, false, false] ++ bitsOf 4 d.toNat ++ bitsOf 17 p.toNat ++ [false, false, false, false, false, false]
    ++ bitsOf 9 c.toNat ++ bitsOf 2 a.toNat

/-- CMD, `b(32) ++ d(4) ++ p(17) ++ a(2) ++ r(8)` (R51). -/
def encodeCmd (b : BitVec 32) (d : BitVec 4) (p : BitVec 17) (a : BitVec 2) (r : BitVec 8) : Bits :=
  bitsOf 32 b.toNat ++ bitsOf 4 d.toNat ++ bitsOf 17 p.toNat ++ bitsOf 2 a.toNat ++ bitsOf 8 r.toNat

/-- The request that presents an operation, written from the patterns of spec/opcode_table.json and R46, R51, R52, R54. -/
def encode (tt : TimingTable) : Instr → Request
  | .enc v w => ⟨.func w, bitsOf (numeralLength v) v⟩
  | .enc4 v => ⟨.func4, bitsOf 4 v⟩
  | .enc9 v => ⟨.func9, bitsOf 9 v⟩
  | .frame d p c a => ⟨.frame41, encodeFrame d p c a⟩
  | .build base idx pid act => ⟨.buildOps, bitsOf 32 base ++ bitsOf 4 idx ++ pid ++ act⟩
  | .resolve s d r => ⟨.rcmd, bitsOf 2 s.toNat ++ bitsOf 4 d.toNat ++ bitsOf 8 r.toNat⟩
  | .transmit b d p a r => ⟨.cmd, encodeCmd b d p a r⟩
  | .syncH => ⟨.seg33, segWord tt .syncH⟩
  | .syncL => ⟨.seg33, segWord tt .syncL⟩
  | .bit0H => ⟨.seg33, segWord tt .bit0H⟩
  | .bit1H => ⟨.seg33, segWord tt .bit1H⟩
  | .gapL => ⟨.seg33, segWord tt .gapL⟩
  | .emitSync => ⟨.macroSync, []⟩
  | .emitBit b => ⟨.macroBit b, []⟩
  | .emitFrame => ⟨.macroFrame, []⟩
  | .radioEnter => ⟨.callEnter, []⟩
  | .radioRestore => ⟨.callRestore, []⟩
  | .exclEnter => ⟨.signal, [true]⟩
  | .exclExit => ⟨.signal, [false]⟩
  | .gpioHigh => ⟨.gpio1, [true]⟩
  | .gpioLow => ⟨.gpio1, [false]⟩
  | .sleepUs d => ⟨.us32, bitsOf 32 d.toNat⟩

/-! ### The words of spec/opcode_table.json -/

/-- The formats whose pattern has this many bits, the pattern's own count or that count rounded up to whole bytes, in the
order they are tried: formats with fixed bits before formats without, then the shorter, then the table's order (log 20). -/
def tableFormats (nbits : Nat) : List Format :=
  match nbits with
  | 1 => [.signal, .gpio1]
  | 4 => [.func4]
  | 8 => [.signal, .gpio1, .func4]
  | 9 => [.func9]
  | 14 => [.rcmd]
  | 16 => [.func9, .rcmd]
  | 32 => [.us32]
  | 33 => [.seg33]
  | 40 => [.seg33]
  | 41 => [.frame41]
  | 48 => [.frame41]
  | 55 => [.buildOps]
  | 56 => [.buildOps]
  | 63 => [.cmd]
  | 64 => [.cmd]
  | _ => []

/-- A word laid out as a request of a format: its low bits, the highest at position 0; none if it has a bit above them. -/
def requestOf (w : Nat) (f : Format) : Option Request :=
  match f.length? with
  | some n => if w < 2 ^ n then some ⟨f, bitsOf n w⟩ else none
  | none => none

/-- The request a table word stands for: the first format of `tableFormats` the word fits. Where none fits, a CMD request
without bits, which the decoder refuses. -/
def tableRequest (nbits w : Nat) : Request :=
  match (tableFormats nbits).filterMap (requestOf w) with
  | q :: _ => q
  | [] => ⟨.cmd, []⟩

/-- What the decoder reads, with the documented timing table, from a row's word numbered as the table numbers it. -/
def decodeTableWord (nbits w : Nat) : Option Instr :=
  match decode .documented (tableRequest nbits w) with
  | .ok i => some i
  | .error _ => none

end Sys2Proof
end

