-- ==== Sys2Proof/Machine/State.lean ====
section
/-! DEFINITION. The state of ZPTG (spec/10_state.md R10 to R26), its faults and refusals, and the state after reset (R24,
spec/70_reset_and_hazards.md R150). -/

namespace Sys2Proof.Machine

/-- `ST` (R13). -/
inductive FsmState where
  /-- No command in progress. -/
  | idle
  /-- `radio.enter()` has been issued and its answer is awaited. -/
  | armed
  /-- Segments are being emitted. -/
  | criticalSection
  /-- The burst is complete, `radio.restore()` is being issued. -/
  | exitMode
  /-- The command ended without any pulse, the error is being reported. -/
  | failed
deriving DecidableEq, Repr

/-- `RESULT` (R15, spec/30_encoding.md R57). -/
inductive ResultCode where
  | success
  | constructionError
  | modeEntryError
deriving DecidableEq, Repr

/-- `CAUSE` (R15, R57, spec/60_exceptions.md R131). -/
inductive Cause where
  | none
  | idxRange
  | ctrRange
  | len
  | repZero
deriving DecidableEq, Repr

/-- The trace alphabet (spec/20_memory.md R43): `E`, `C+`, `H`, `L`, `S(d)`, `C-`, `X`. -/
inductive Event where
  | enter
  | exclOn
  | high
  | low
  | sleep (d : BitVec 32)
  | exclOff
  | restore
deriving DecidableEq, Repr

/-- What a pure operation returned to its caller (spec/00_scope.md R9 `return v` and `raise`); the model's own (log 9). -/
inductive Returned where
  /-- Nothing yet. -/
  | nothing
  /-- ENC: the bits and the error signal (R65). -/
  | bits (bs : Bits) (err : Bool)
  /-- A frame (R46, R75). -/
  | frame (f : BitVec 41)
  /-- RESOLVE: the operands of TRANSMIT (R83). -/
  | cmd (c : Cmd)
  /-- ConstructionError with its cause, delivered to the caller (R9, R79, R83). -/
  | constructionError (c : Cause)
deriving DecidableEq, Repr

/-- What the host presents with `cmd_valid = 1` (R26): a command, or the second command form of the RESOLVE front end. -/
inductive HostCommand where
  | cmd (c : Cmd)
  | rcmd (r : RCmd)
deriving DecidableEq, Repr

/-- The input ports at one transition of the FSM (R26). -/
structure PortSample where
  /-- `rst`, asserted; its polarity is not architectural (D9). -/
  rst : Bool
  /-- `cmd_valid` with the operand ports; none is `cmd_valid = 0`. -/
  cmd : Option HostCommand
  /-- `radio_enter_ok`. -/
  enterOk : Bool
  /-- `radio_enter_fail`. -/
  enterFail : Bool
deriving DecidableEq, Repr

/-- The state. Registers of the block first (R10), then its request pulses (R26), the environment (R22), and the model's own
fields (INVENTORY.md). -/
structure State where
  /-- `BASE` (R11). -/
  base : BitVec 32
  /-- `IDX` (R11). -/
  idx : BitVec 4
  /-- `PID`, position 0 is bit 16 (R11). -/
  pid : BitVec 17
  /-- `ACT`, position 0 is bit 1 (R11). -/
  act : BitVec 2
  /-- `REP` (R11). -/
  rep : BitVec 8
  /-- `FRAME`, position p is bit 40 - p (R12, spec/20_memory.md R34). -/
  frame : BitVec 41
  /-- `pc`, segments completed in the current burst (R17). -/
  pc : BitVec 15
  /-- `ERR_IDX` (R19). -/
  errIdx : Bool
  /-- `ERR_CTR` (R19). -/
  errCtr : Bool
  /-- `ERR_LEN` (R19). -/
  errLen : Bool
  /-- `ST` (R13). -/
  st : FsmState
  /-- `EXCL` (R14). -/
  excl : Bool
  /-- `RESULT` (R15). -/
  result : ResultCode
  /-- `CAUSE` (R15). -/
  cause : Cause
  /-- `DONE` (R15). -/
  done : Bool
  /-- `LVL` (R16). -/
  lvl : Bool
  /-- Where the sequencer stands inside the segment at `pc`: its level has been written and its sleep is still to come (R7: a
  step is one outbound call; log 25). -/
  midSegment : Bool
  /-- `TIMER`, clock ticks left of the sleep in progress, 0 when not counting (R21, spec/60_exceptions.md R140). -/
  timer : Nat
  /-- The configuration (R20); no operation writes it. -/
  cfg : Configuration
  /-- `radio_enter_req`, the pulse of the last transition (R26). -/
  radioEnterReq : Bool
  /-- `radio_restore_req`, the pulse of the last transition (R26). -/
  radioRestoreReq : Bool
  /-- `RADIO_MODE`, of the environment (R22). -/
  radioMode : RadioMode
  /-- Whether the controller honours `restoreNormalMode` (R117, U18; log 6); of the environment. -/
  restoreHonoured : Bool
  /-- The port samples still to come, one for each step of the FSM; when there is none, nothing is presented (log 2). -/
  inputs : List PortSample
  /-- An operation presented directly by name (log 1). -/
  slot : Option Request
  /-- What the last pure operation returned (log 9). -/
  ret : Returned
  /-- The outbound calls so far, oldest first (R7, R38, R43; log 29). -/
  trace : List Event
  /-- Nominal time, microseconds (R21, spec/70_reset_and_hazards.md R162). -/
  elapsed : Nat
  /-- How many free values have been drawn (log 5). -/
  draws : Nat
deriving DecidableEq, Repr

/-- Faults. The block itself has no trap (spec/60_exceptions.md); these are the decoders' reports of U13 and U17. -/
inductive Fault where
  /-- Raised by a step on a presented FRAME41 string with a 1 in a reserved position (R48, U13). Safe: the model stops. -/
  | notAZptgFrame
  /-- Raised by a step on a presented SEG33 word that is none of the five (R56, U17). Safe: the model stops. -/
  | illegalSegment
deriving DecidableEq, Repr

/-- Refusals. -/
inductive Refusal where
  /-- Raised by an arm of `exec` whose instruction has no meaning yet; none has. Safe. -/
  | notModelled (mnemonic : String)
  /-- Raised by a step on a presented string that is no operation: of another length than its format's one length (R45), or
  ENC at width 0 (R65); R60: "Nothing else is an operation of the block". Safe. -/
  | undecodable (e : DecodeError)
  /-- Raised by RESOLVE where HAS_RESOLVE is false: the unit is absent (R6, R83; log 12). Safe. -/
  | resolveNotBuilt
  /-- Raised by a step in ARMED when both answer lines are pulsed at once, a violation of the controller's contract
  ("exactly one of them", R26; U15 `refuse`; log 8). Safe. -/
  | bothAnswers
deriving DecidableEq, Repr

/-- The machine right after reset (R24, R150, R153). Registers whose reset value R24 leaves unspecified hold 0, SUCCESS, NONE
(log 3, DESIGN CHOICE). -/
def State.reset : State where
  base := 0
  idx := 0
  pid := 0
  act := 0
  rep := 0
  frame := 0
  pc := 0
  errIdx := false
  errCtr := false
  errLen := false
  st := .idle
  excl := false
  result := .success
  cause := .none
  done := false
  lvl := false
  midSegment := false
  timer := 0
  cfg := .documented
  radioEnterReq := false
  radioRestoreReq := false
  radioMode := .normal
  restoreHonoured := true
  inputs := []
  slot := none
  ret := .nothing
  trace := []
  elapsed := 0
  draws := 0

end Sys2Proof.Machine
end

