-- ==== Sys2Proof/Machine/Operands.lean ====
section
/-! DEFINITION. What the operations compute from their operands, with no state: the codec (spec/40_bitfield_codec.md), the
frame's string (spec/41_frame_builder.md R76, R77), the resolver's mapping (R83, R84), and the segment at a position of the
burst (spec/42_waveform_sequencer.md R96). -/

namespace Sys2Proof.Machine

/-- ENC: the bits most significant first and `err = 0` where `value < 2^width`, else `width` zeros and `err = 1` (R65). -/
def encodeUnsigned (value width : Nat) : Bits × Bool :=
  if value < 2 ^ width then (bitsOf width value, false) else (List.replicate width false, true)

/-- The counter: the exact sum, no modulo (R76). -/
def counterValue (base idx : Nat) : Nat := base + idx

/-- The concatenation in the fixed order (R77): `000`, index, protocol id, `000000`, counter, action. -/
def frameString (base idx : Nat) (pid act : Bits) : Bits :=
  [false, false, false] ++ (encodeUnsigned idx 4).1 ++ pid ++ [false, false, false, false, false, false]
    ++ (encodeUnsigned (counterValue base idx) 9).1 ++ act

/-- A frame string as the register FRAME: position p is bit 40 - p (spec/20_memory.md R34). -/
def frameRegister (f : Bits) : BitVec 41 := BitVec.ofNat 41 (valOf f)

/-- The frame by its fields, position 0 to the left (spec/30_encoding.md R46). -/
def frameOfFields (d : BitVec 4) (p : BitVec 17) (c : BitVec 9) (a : BitVec 2) : BitVec 41 :=
  0#3 ++ d ++ p ++ 0#6 ++ c ++ a

/-- The action an RCMD code names; code 3 names none (R52). -/
def actionOfCode (s : BitVec 2) : Option Action :=
  if s = 0#2 then some .raise
  else if s = 1#2 then some .lower
  else if s = 2#2 then some .pause
  else none

/-- The index-1 swap (R84): RAISE and LOWER exchange, for index 1 and only there; PAUSE is unchanged. -/
def effectiveAction (idx : BitVec 4) (a : Action) : Action :=
  if idx = 1#4 then
    match a with
    | .raise => .lower
    | .lower => .raise
    | .pause => .pause
  else a

/-- The base constant of an action (R83). -/
def baseOf (cfg : Configuration) : Action → BitVec 32
  | .raise => cfg.baseRaise
  | .lower => cfg.baseLower
  | .pause => cfg.basePause

/-- The action code of an action (R83). -/
def codeOf (cfg : Configuration) : Action → BitVec 2
  | .raise => cfg.codeRaise
  | .lower => cfg.codeLower
  | .pause => cfg.codePause

/-- RESOLVE: the CMD of an RCMD; none is the refusal of the fourth action code, ConstructionError(NONE) (R83). -/
def resolveCmd (cfg : Configuration) (r : RCmd) : Option Cmd :=
  match actionOfCode r.action with
  | none => none
  | some a =>
      some { base := baseOf cfg (effectiveAction r.idx a), idx := r.idx, pid := cfg.protocolId,
             act := codeOf cfg (effectiveAction r.idx a), rep := r.rep }

/-- `MemRead(FRAME, i, 1)`: position i, 0 leftmost (R32, R34). -/
def memReadFrame (f : BitVec 41) (i : Nat) : Bool := f.getLsbD (40 - i)

/-- `NSEG = 88 x REP + 6` (R17, R96). -/
def nseg (rep : BitVec 8) : Nat := 88 * rep.toNat + 6

/-- The kind of the high segment of a bit cell (R96, R105). -/
def bitKind (b : Bool) : SegKind := if b then .bit1H else .bit0H

/-- `seg(k)` (R96): the segment at position k of a burst of a frame. -/
def segAt (f : BitVec 41) (k : Nat) : SegKind :=
  let j := k % 88
  if j < 6 then (if j % 2 = 0 then .syncH else .syncL)
  else if (j - 6) % 2 = 0 then bitKind (memReadFrame f ((j - 6) / 2))
  else .gapL

end Sys2Proof.Machine
end

