-- ==== Sys2Proof/Machine/Flags.lean ====
section
/-! DEFINITION. The three error flags of BUILD (spec/10_state.md R19, spec/41_frame_builder.md R75, R78), the cause they give
(R80), and the cause of a command that fails validation (spec/42_waveform_sequencer.md R92). -/

namespace Sys2Proof.Machine

/-- The three checks of one BUILD (R75). -/
structure BuildChecks where
  eIdx : Bool
  eCtr : Bool
  eLen : Bool
deriving DecidableEq, Repr

/-- All three checks are evaluated on every BUILD (R75, R80). -/
def buildChecks (base idx : Nat) (pid act : Bits) : BuildChecks where
  eIdx := (encodeUnsigned idx 4).2
  eCtr := (encodeUnsigned (counterValue base idx) 9).2
  eLen := (frameString base idx pid act).length != 41

/-- The cause reported: the first check that failed in the order IDX_RANGE, CTR_RANGE, LEN (R80); none when all pass. -/
def causeOfChecks (c : BuildChecks) : Option Cause :=
  if c.eIdx then some .idxRange
  else if c.eCtr then some .ctrRange
  else if c.eLen then some .len
  else none

/-- The cause a command fails validation with (R92): BUILD's, else REP_ZERO, which comes last (R80). -/
def validationCause (c : BuildChecks) (rep : BitVec 8) : Option Cause :=
  match causeOfChecks c with
  | some e => some e
  | none => if rep = 0#8 then some .repZero else none

/-- `ERR_IDX <- e_idx ; ERR_CTR <- e_ctr ; ERR_LEN <- e_len` (R75). -/
def writeFlags (c : BuildChecks) (s : State) : State :=
  { s with errIdx := c.eIdx, errCtr := c.eCtr, errLen := c.eLen }

/-- The code of a RESULT (spec/30_encoding.md R57). -/
def resultCode : ResultCode → BitVec 2
  | .success => 0
  | .constructionError => 1
  | .modeEntryError => 2

/-- The code of a CAUSE (R57). -/
def causeCode : Cause → BitVec 3
  | .none => 0
  | .idxRange => 1
  | .ctrRange => 2
  | .len => 3
  | .repZero => 4

/-- RES, `result(2) ++ cause(3)` (R57). -/
def resRecord (s : State) : BitVec 5 := resultCode s.result ++ causeCode s.cause

end Sys2Proof.Machine
end

