-- ==== Sys2Proof/Machine/Ops.lean ====
section
/-! DEFINITION. The named operations over the state: the pseudocode primitives (spec/00_scope.md R9), one segment
(spec/42_waveform_sequencer.md R98 to R102), the outbound calls and the FSM's arcs (R93, R110 to R113), taking an error and
returning from one (spec/60_exceptions.md R133), acceptance of a command (R91), reset (spec/70_reset_and_hazards.md R152),
and the ports (spec/10_state.md R26). -/

namespace Sys2Proof.Machine

/-! ### Primitives (R9) -/

/-- Appends an outbound call to the trace (R38). -/
def emit (e : Event) (s : State) : State := { s with trace := s.trace ++ [e] }

/-- `MemWrite(GPIO, 0, 1, v)`: drives the line, and is `gpio.setHigh()` or `gpio.setLow()` (spec/20_memory.md R33). -/
def memWriteGpio (v : Bool) (s : State) : State :=
  emit (if v then .high else .low) { s with lvl := v }

/-- The request half of `sleep(d)`: the countdown starts at `d x TICKS_PER_US` ticks (R21), and the call is in the trace. -/
def startSleep (d : BitVec 32) (s : State) : State :=
  emit (.sleep d) { s with timer := d.toNat * s.cfg.ticksPerUs }

/-- The completion half of `sleep(d)`: the countdown is at zero, and nominal time has advanced by exactly d (R21, R162). -/
def completeSleep (d : BitVec 32) (s : State) : State :=
  { s with timer := 0, elapsed := s.elapsed + d.toNat }

/-- `sleep(d)`: blocking, so request and completion with nothing between them (spec/20_memory.md R40; log 18). -/
def sleepFor (d : BitVec 32) (s : State) : State := completeSleep d (startSleep d s)

/-- `MemRead(TT, i, 32)` for the entry a segment kind reads (R31, R97). -/
def memReadTT (k : SegKind) (s : State) : BitVec 32 := s.cfg.tt.entry k

/-- `pc <- pc + 1` (R17). -/
def advancePc (s : State) : State := { s with pc := s.pc + 1 }

/-- `return v` of a pure operation (R9; log 9). -/
def returnValue (r : Returned) (s : State) : State := { s with ret := r }

/-! ### Segments -/

/-- The first outbound call of a segment, the level write (R98 to R102). -/
def segmentLevel (k : SegKind) (s : State) : State := memWriteGpio k.level s

/-- The second outbound call of a segment, the sleep, and at its completion `pc <- pc + 1` (R98 to R102, R17). -/
def segmentSleep (k : SegKind) (s : State) : State := advancePc (sleepFor (memReadTT k s) s)

/-- One segment: level write, sleep, `pc <- pc + 1` (R98 to R102). -/
def runSegment (k : SegKind) (s : State) : State := segmentSleep k (segmentLevel k s)

/-- The sequencer's step that issues a segment's level write (R7, R93). -/
def openSegment (k : SegKind) (s : State) : State := { segmentLevel k s with midSegment := true }

/-- The sequencer's step that issues a segment's sleep and completes the segment (R7, R21, R93). -/
def closeSegment (k : SegKind) (s : State) : State := { segmentSleep k s with midSegment := false }

/-- Segments one after the other (R104 to R106). -/
def runSegments : List SegKind → State → State
  | [], s => s
  | k :: ks, s => runSegments ks (runSegment k s)

/-- A sync burst: three (high, low) pairs (R104). -/
def syncBurst : List SegKind := [.syncH, .syncL, .syncH, .syncL, .syncH, .syncL]

/-- The cell of one frame bit: the high time says the bit, the gap follows always (R105). -/
def bitCell (b : Bool) : List SegKind := [bitKind b, .gapL]

/-- The 41 cells of a frame, in position order (R106). -/
def frameCells (f : BitVec 41) : List SegKind :=
  (List.range 41).flatMap (fun i => bitCell (memReadFrame f i))

/-! ### Outbound calls and the FSM's arcs -/

/-- `radio.enter()` issued, and the wait for its answer (R110; arc IDLE to ARMED of R93). -/
def issueEnter (s : State) : State :=
  emit .enter { s with radioEnterReq := true, st := .armed }

/-- `excl <- 1 ; pc <- 0` (R112, R90; arc ARMED to CRITICAL_SECTION of R93), at the start of the first segment. -/
def enterCritical (s : State) : State :=
  emit .exclOn { s with excl := true, pc := 0, midSegment := false, st := .criticalSection }

/-- `excl <- 0` (R113; arc CRITICAL_SECTION to EXIT_MODE of R93). -/
def leaveCritical (s : State) : State :=
  emit .exclOff { s with excl := false, st := .exitMode }

/-- What `radio.restore()` does to RADIO_MODE: NORMAL (R22), or a free value where the controller does not honour the call
(U18; log 6). -/
def restoreRadio (s : State) : State :=
  if s.restoreHonoured then { s with radioMode := .normal }
  else { s with radioMode := Config.radioModeAfterRestore s.draws, draws := s.draws + 1 }

/-- `radio.restore()` issued and not waited for, success reported (R111, R90; arc EXIT_MODE to IDLE of R93). -/
def issueRestore (s : State) : State :=
  emit .restore
    { restoreRadio s with
        radioRestoreReq := true, result := .success, cause := .none, done := true, st := .idle }

/-- The controller's answer `ok`, taken by the environment: RADIO_MODE becomes DIRECT (R22). -/
def answerOk (s : State) : State := { s with radioMode := .direct }

/-- The controller's answer `fail`, taken by the environment: RADIO_MODE is as the controller chooses, a free value (R22, U7;
log 5). -/
def answerFail (s : State) : State :=
  { s with radioMode := Config.radioModeAfterFail s.draws, draws := s.draws + 1 }

/-! ### Errors -/

/-- Taking an error: RESULT and CAUSE are written and the FSM goes to FAILED; nothing is saved, no mode changes (R133). -/
def raiseError (r : ResultCode) (c : Cause) (s : State) : State :=
  { s with result := r, cause := c, st := .failed }

/-- The return from an error: `DONE <- 1`, and IDLE (R133, R93). -/
def finishFailed (s : State) : State := { s with done := true, st := .idle }

/-! ### Acceptance -/

/-- The operands sampled into the operand registers, `DONE <- 0` (R91). -/
def latchOperands (c : Cmd) (s : State) : State :=
  { s with base := c.base, idx := c.idx, pid := c.pid, act := c.act, rep := c.rep, done := false }

/-- BUILD's checks on the sampled operands (R91, R75). -/
def cmdChecks (c : Cmd) : BuildChecks :=
  buildChecks c.base.toNat c.idx.toNat (bitsOf 17 c.pid.toNat) (bitsOf 2 c.act.toNat)

/-- BUILD's frame of the sampled operands (R91, R75). -/
def cmdFrame (c : Cmd) : BitVec 41 :=
  frameRegister (frameString c.base.toNat c.idx.toNat (bitsOf 17 c.pid.toNat) (bitsOf 2 c.act.toNat))

/-- Acceptance of a command in IDLE (R91, R92, the two IDLE rows of R93): latch, BUILD, then either the FAILED path, or
`FRAME <- f` and `radio.enter()`. -/
def acceptCommand (c : Cmd) (s : State) : State :=
  let t := writeFlags (cmdChecks c) (latchOperands c s)
  match validationCause (cmdChecks c) c.rep with
  | some e => raiseError .constructionError e t
  | none => issueEnter { t with frame := cmdFrame c }

/-- Acceptance of the second command form in IDLE (R83, R26): RESOLVE, then acceptance of its CMD; the refusal of the fourth
action code takes the FAILED path with cause NONE before any CMD is formed (R131; log 11). -/
def acceptResolved (r : RCmd) (s : State) : State :=
  match resolveCmd s.cfg r with
  | some c => acceptCommand c s
  | none => raiseError .constructionError .none { s with done := false }

/-! ### Reset and ports -/

/-- `rst` asserted at any state (R152, R24): the reset values, at once; no outbound call, so RADIO_MODE stays (R151); the
configuration stays (R24); the environment and the model's records stay (log 4). EXCL may fall here, and D20 makes the two
edges of `excl` trace events: that this fall, by reset and not by `excl <- 0`, appends no `C-` is the model's choice (log 35,
DESIGN CHOICE). -/
def warmReset (s : State) : State :=
  { State.reset with
      cfg := s.cfg, radioMode := s.radioMode, restoreHonoured := s.restoreHonoured, inputs := s.inputs,
      slot := s.slot, ret := s.ret, trace := s.trace, elapsed := s.elapsed, draws := s.draws }

/-- Nothing presented, no answer, no reset. -/
def PortSample.quiet : PortSample := { rst := false, cmd := none, enterOk := false, enterFail := false }

/-- The port sample of this transition: the script's next, or nothing when the script has ended (log 2). -/
def samplePorts (s : State) : PortSample :=
  match s.inputs with
  | p :: _ => p
  | [] => PortSample.quiet

/-- The sample is past. -/
def dropSample (s : State) : State := { s with inputs := s.inputs.tail }

/-- The request lines are pulses: they fall before the next transition (R26). -/
def clearPulses (s : State) : State := { s with radioEnterReq := false, radioRestoreReq := false }

/-- The directly presented operation is taken (log 1). -/
def takeSlot (s : State) : State := { s with slot := none }

/-- The level outputs of the block (R26). -/
structure OutPorts where
  cmdReady : Bool
  done : Bool
  result : BitVec 2
  cause : BitVec 3
  excl : Bool
  gpio : Bool
  radioEnterReq : Bool
  radioRestoreReq : Bool
deriving DecidableEq, Repr

/-- The output ports as functions of the registers; `cmd_ready = 1` iff `ST = IDLE` (R26). -/
def outPorts (s : State) : OutPorts where
  cmdReady := s.st == .idle
  done := s.done
  result := resultCode s.result
  cause := causeCode s.cause
  excl := s.excl
  gpio := s.lvl
  radioEnterReq := s.radioEnterReq
  radioRestoreReq := s.radioRestoreReq

end Sys2Proof.Machine
end

