-- ==== Sys2Proof/Machine/Builder.lean ====
section
/-! DEFINITION. BUILD and RESOLVE (spec/41_frame_builder.md). -/

namespace Sys2Proof.Machine

/-- BUILD (R75): all three flags written, then the frame returned, or ConstructionError with its cause (R79, R80). It does not
write FRAME: that is acceptance (R81). -/
def execBuild (base idx : Nat) (pid act : Bits) (s : State) : Host.Outcome State Fault Refusal :=
  .next (returnValue
    (match causeOfChecks (buildChecks base idx pid act) with
     | some e => .constructionError e
     | none => .frame (frameRegister (frameString base idx pid act)))
    (writeFlags (buildChecks base idx pid act) s))

/-- RESOLVE (R83): the CMD returned, or ConstructionError(NONE) for the fourth action code; no flag is written. Not built
where HAS_RESOLVE is false (log 12). -/
def execResolve (action : BitVec 2) (idx : BitVec 4) (rep : BitVec 8) (s : State) : Host.Outcome State Fault Refusal :=
  if s.cfg.hasResolve then
    .next (returnValue
      (match resolveCmd s.cfg { action := action, idx := idx, rep := rep } with
       | some c => .cmd c
       | none => .constructionError .none) s)
  else .refused .resolveNotBuilt

end Sys2Proof.Machine
end

