-- ==== Sys2Proof/Machine/Codec.lean ====
section
/-! DEFINITION. The codec and the frame's layout: ENC, ENC4, ENC9 (spec/40_bitfield_codec.md), FRAME (spec/30_encoding.md R46).
Pure operations: they return a value and write no register. -/

namespace Sys2Proof.Machine

/-- ENC (R65): the bits and the error signal; it raises nothing. -/
def execEnc (value width : Nat) (s : State) : Host.Outcome State Fault Refusal :=
  .next (returnValue (.bits (encodeUnsigned value width).1 (encodeUnsigned value width).2) s)

/-- ENC4 (R67). -/
def execEnc4 (v : Nat) (s : State) : Host.Outcome State Fault Refusal :=
  .next (returnValue (.bits (encodeUnsigned v 4).1 (encodeUnsigned v 4).2) s)

/-- ENC9 (R68): the comparison is on the whole of `v`. -/
def execEnc9 (v : Nat) (s : State) : Host.Outcome State Fault Refusal :=
  .next (returnValue (.bits (encodeUnsigned v 9).1 (encodeUnsigned v 9).2) s)

/-- FRAME (R46): the fields laid out as one 41-bit frame, returned (log 10, DESIGN CHOICE: a data format has no effect of its
own). -/
def execFrame (d : BitVec 4) (p : BitVec 17) (c : BitVec 9) (a : BitVec 2) (s : State) :
    Host.Outcome State Fault Refusal :=
  .next (returnValue (.frame (frameOfFields d p c a)) s)

end Sys2Proof.Machine
end

