-- ==== Sys2Proof/Machine/Segments.lean ====
section
/-! DEFINITION. The five segment operations (spec/42_waveform_sequencer.md R98 to R102) and the three emission macros (R104 to
R106). -/

namespace Sys2Proof.Machine

/-- SYNC_H (R98). -/
def execSyncH (s : State) : Host.Outcome State Fault Refusal := .next (runSegment .syncH s)

/-- SYNC_L (R99). -/
def execSyncL (s : State) : Host.Outcome State Fault Refusal := .next (runSegment .syncL s)

/-- BIT0_H (R100). -/
def execBit0H (s : State) : Host.Outcome State Fault Refusal := .next (runSegment .bit0H s)

/-- BIT1_H (R101). -/
def execBit1H (s : State) : Host.Outcome State Fault Refusal := .next (runSegment .bit1H s)

/-- GAP_L (R102). -/
def execGapL (s : State) : Host.Outcome State Fault Refusal := .next (runSegment .gapL s)

/-- EMIT_SYNC (R104): the six segments of a sync burst. -/
def execEmitSync (s : State) : Host.Outcome State Fault Refusal := .next (runSegments syncBurst s)

/-- EMIT_BIT(b) (R105): the cell of frame position b (log 21). -/
def execEmitBit (b : Fin 41) (s : State) : Host.Outcome State Fault Refusal :=
  .next (runSegments (bitCell (memReadFrame s.frame b.val)) s)

/-- EMIT_FRAME (R106): the 41 cells in position order. -/
def execEmitFrame (s : State) : Host.Outcome State Fault Refusal := .next (runSegments (frameCells s.frame) s)

end Sys2Proof.Machine
end

