-- ==== Sys2Proof/Machine/System.lean ====
section
/-! DEFINITION. The system operations (spec/42_waveform_sequencer.md R110 to R113), each with the arc of R93 it is issued on
(log 15), and the primitives (R114, R115). -/

namespace Sys2Proof.Machine

/-- RADIO_ENTER (R110): the call, and the wait in ARMED. -/
def execRadioEnter (s : State) : Host.Outcome State Fault Refusal := .next (issueEnter s)

/-- RADIO_RESTORE (R111): the call, and the end of the command in IDLE. -/
def execRadioRestore (s : State) : Host.Outcome State Fault Refusal := .next (issueRestore s)

/-- EXCL_ENTER (R112). -/
def execExclEnter (s : State) : Host.Outcome State Fault Refusal := .next (enterCritical s)

/-- EXCL_EXIT (R113). -/
def execExclExit (s : State) : Host.Outcome State Fault Refusal := .next (leaveCritical s)

/-- GPIO_HIGH (R114): `MemWrite(GPIO, 0, 1, 1)`. -/
def execGpioHigh (s : State) : Host.Outcome State Fault Refusal := .next (memWriteGpio true s)

/-- GPIO_LOW (R114): `MemWrite(GPIO, 0, 1, 0)`. -/
def execGpioLow (s : State) : Host.Outcome State Fault Refusal := .next (memWriteGpio false s)

/-- SLEEP_US (R115). -/
def execSleepUs (d : BitVec 32) (s : State) : Host.Outcome State Fault Refusal := .next (sleepFor d s)

end Sys2Proof.Machine
end

