-- ==== Sys2Proof/Machine/Transmit.lean ====
section
/-! DEFINITION. TRANSMIT, the host command (spec/42_waveform_sequencer.md R90 to R93). -/

namespace Sys2Proof.Machine

/-- TRANSMIT presented: accepted where `cmd_ready = 1`, that is in IDLE (R91), with the effects of acceptance; the FSM's later
transitions carry the command out (R93; log 14). In any other state it is not accepted and has no effect (R91; log 13). -/
def execTransmit (base : BitVec 32) (idx : BitVec 4) (pid : BitVec 17) (act : BitVec 2) (rep : BitVec 8) (s : State) :
    Host.Outcome State Fault Refusal :=
  if s.st = .idle then .next (acceptCommand { base := base, idx := idx, pid := pid, act := act, rep := rep } s)
  else .next s

end Sys2Proof.Machine
end

