-- ==== Sys2Proof/Machine/Dispatch.lean ====
section
/-! DEFINITION. The meaning of each operation, one arm per constructor of `Instr` (spec/30_encoding.md R60). -/

namespace Sys2Proof.Machine

def exec (i : Instr) (s : State) : Host.Outcome State Fault Refusal :=
  match i with
  | .enc value width => Sys2Proof.Machine.execEnc value width s
  | .enc4 v => Sys2Proof.Machine.execEnc4 v s
  | .enc9 v => Sys2Proof.Machine.execEnc9 v s
  | .frame d p c a => Sys2Proof.Machine.execFrame d p c a s
  | .build base idx pid act => Sys2Proof.Machine.execBuild base idx pid act s
  | .resolve action idx rep => Sys2Proof.Machine.execResolve action idx rep s
  | .transmit base idx pid act rep => Sys2Proof.Machine.execTransmit base idx pid act rep s
  | .syncH => Sys2Proof.Machine.execSyncH s
  | .syncL => Sys2Proof.Machine.execSyncL s
  | .bit0H => Sys2Proof.Machine.execBit0H s
  | .bit1H => Sys2Proof.Machine.execBit1H s
  | .gapL => Sys2Proof.Machine.execGapL s
  | .emitSync => Sys2Proof.Machine.execEmitSync s
  | .emitBit b => Sys2Proof.Machine.execEmitBit b s
  | .emitFrame => Sys2Proof.Machine.execEmitFrame s
  | .radioEnter => Sys2Proof.Machine.execRadioEnter s
  | .radioRestore => Sys2Proof.Machine.execRadioRestore s
  | .exclEnter => Sys2Proof.Machine.execExclEnter s
  | .exclExit => Sys2Proof.Machine.execExclExit s
  | .gpioHigh => Sys2Proof.Machine.execGpioHigh s
  | .gpioLow => Sys2Proof.Machine.execGpioLow s
  | .sleepUs d => Sys2Proof.Machine.execSleepUs d s

end Sys2Proof.Machine
end

