-- ==== Sys2Proof/Machine/Sequencer.lean ====
section
/-! DEFINITION. One step of the block: an operation presented directly by name (log 1), or one transition of the FSM, row by
row of spec/42_waveform_sequencer.md R93. -/

namespace Sys2Proof.Machine

/-- IDLE (R93, rows 1 and 2): a presented command is accepted; nothing presented, nothing happens. The answer lines are
ignored (R110); that an `ok` arriving here leaves RADIO_MODE as it is, one to a request that a reset cut off among them, is
the model's choice (log 33, DESIGN CHOICE). -/
def stepIdle (p : PortSample) (s : State) : Host.Outcome State Fault Refusal :=
  match p.cmd with
  | none => .next s
  | some (.cmd c) => exec (.transmit c.base c.idx c.pid c.act c.rep) s
  | some (.rcmd r) => if s.cfg.hasResolve then .next (acceptResolved r s) else .next s

/-- ARMED (R93, rows 3 to 5; R94): the controller's answer, or the wait for it. Both lines at once break the controller's
contract (log 8). -/
def stepArmed (p : PortSample) (s : State) : Host.Outcome State Fault Refusal :=
  match p.enterOk, p.enterFail with
  | false, false => .next s
  | true, false => exec .exclEnter (answerOk s)
  | false, true => .next (raiseError .modeEntryError .none (answerFail s))
  | true, true => .refused .bothAnswers

/-- CRITICAL_SECTION (R93, rows 6 and 7): the segment at `pc`, or the end of the burst; with `pc` past NSEG, a condition not
listed, the FSM stays (log 24). A step is one outbound call (R7), so a segment takes two: its level write, then its sleep
with `pc <- pc + 1` (log 25). No input is looked at (R116). -/
def stepCritical (s : State) : Host.Outcome State Fault Refusal :=
  if s.pc.toNat < nseg s.rep then
    if s.midSegment then .next (closeSegment (segAt s.frame s.pc.toNat) s)
    else .next (openSegment (segAt s.frame s.pc.toNat) s)
  else if s.pc.toNat = nseg s.rep then exec .exclExit s
  else .next s

/-- One step of the FSM (R93, R7), on one sample of the ports; reset comes first (R152). The controller's answer is looked at
in ARMED only; what an answer outside ARMED does to RADIO_MODE is left open by the spec, and the model leaves the mode as it
is (R22, R110, R141; log 33, DESIGN CHOICE). -/
def fsmStep (p : PortSample) (s : State) : Host.Outcome State Fault Refusal :=
  if p.rst then .next (warmReset s)
  else
    match s.st with
    | .idle => stepIdle p s
    | .armed => stepArmed p s
    | .criticalSection => stepCritical s
    | .exitMode => exec .radioRestore s
    | .failed => .next (finishFailed s)

/-- What a step answers where the presented string is no operation: a frame word with a reserved 1 and an illegal SEG33 word
are faults of the decoder (U13, U17); a string of another length than its format's (R45) and ENC at width 0 (R65) are no
operation (R60) and refused. -/
def undecoded (e : DecodeError) : Host.Outcome State Fault Refusal :=
  match e with
  | .reservedNonzero => .fault .notAZptgFrame
  | .illegalSegment => .fault .illegalSegment
  | .wrongLength f => .refused (.undecodable (.wrongLength f))
  | .zeroWidth => .refused (.undecodable .zeroWidth)

/-- An operation presented directly by name is decoded and run in the present state (log 1). -/
def directStep (q : Request) (s : State) : Host.Outcome State Fault Refusal :=
  match decode s.cfg.tt q with
  | .ok i => exec i (takeSlot s)
  | .error e => undecoded e

/-- One step: the pulses fall, then the presented operation or the FSM's transition. -/
def machineStep (s : State) : Host.Outcome State Fault Refusal :=
  match s.slot with
  | some q => directStep q (clearPulses s)
  | none => fsmStep (samplePorts s) (dropSample (clearPulses s))

/-- A table word placed in the slot (log 1). -/
def placeWord (s : State) (nbits w : Nat) : State := { s with slot := some (tableRequest nbits w) }

end Sys2Proof.Machine
end

