-- ==== Sys2Proof/Machine/Step.lean ====
section
/-! DEFINITION. The step function and the host's placing of an instruction. -/

namespace Sys2Proof.Machine

/-- One step of the machine. -/
def step (s : State) : Host.Outcome State Fault Refusal := machineStep s

/-- `s` with the instruction of a table word placed where the next step takes it (log 1). -/
def State.withFetchWord (s : State) (nbits w : Nat) : State := placeWord s nbits w

end Sys2Proof.Machine
end

