-- ==== Sys2Proof/Safety.lean ====
section
/-! DEFINITION. What counts as a safe run, in the terms the statements use: the burst as a list of segments
(spec/42_waveform_sequencer.md R95, R96), its events and its time, which calls are level writes, and the invariant of the
sequencer. -/

namespace Sys2Proof.Machine

/-! ### The burst -/

/-- The segments of one burst, by the flat counter (R96). -/
def burstKinds (f : BitVec 41) (rep : BitVec 8) : List SegKind := (List.range (nseg rep)).map (segAt f)

/-- The segments of one burst, by the source's nested loops (R95). -/
def nestedBurst (f : BitVec 41) (rep : BitVec 8) : List SegKind :=
  (List.replicate rep.toNat (syncBurst ++ frameCells f)).flatten ++ syncBurst

/-- The two outbound calls of a segment: the level write, then the sleep (spec/20_memory.md R43). -/
def segEvents (tt : TimingTable) (k : SegKind) : List Event :=
  [if k.level then .high else .low, .sleep (tt.entry k)]

/-- The outbound calls of one burst (R43, third shape). -/
def burstEvents (tt : TimingTable) (f : BitVec 41) (rep : BitVec 8) : List Event :=
  (burstKinds f rep).flatMap (segEvents tt)

/-- The nominal time of segments, microseconds (R108). -/
def totalTime (tt : TimingTable) (ks : List SegKind) : Nat := (ks.map (fun k => (tt.entry k).toNat)).sum

/-- How many of the 41 positions of a frame hold a 1 (R108's `o`). -/
def onesIn (f : BitVec 41) : Nat := ((List.range 41).filter (memReadFrame f)).length

/-- The reserved positions of a frame are 0 (spec/30_encoding.md R48). -/
def reservedZero (f : BitVec 41) : Prop :=
  ∀ i, i < 3 ∨ (24 ≤ i ∧ i < 30) → memReadFrame f i = false

/-- The integer form of a frame (R46, R77). -/
def frameInteger (idx pid ctr act : Nat) : Nat := idx <<< 34 ||| pid <<< 17 ||| ctr <<< 2 ||| act

/-! ### Events -/

/-- A level write. -/
def Event.isLevelWrite : Event → Bool
  | .high => true
  | .low => true
  | .sleep _ => false
  | .enter => false
  | .exclOn => false
  | .exclOff => false
  | .restore => false

/-- A sleep. -/
def Event.isSleep : Event → Bool
  | .sleep _ => true
  | .high => false
  | .low => false
  | .enter => false
  | .exclOn => false
  | .exclOff => false
  | .restore => false

/-- The nominal time a call takes: only a sleep takes any (spec/70_reset_and_hazards.md R162). -/
def Event.time : Event → Nat
  | .sleep d => d.toNat
  | .high => 0
  | .low => 0
  | .enter => 0
  | .exclOn => 0
  | .exclOff => 0
  | .restore => 0

/-! ### Runs -/

/-- Operations one after the other, stopping at the first fault or refusal. -/
def execAll : List Instr → State → Host.Outcome State Fault Refusal
  | [], s => .next s
  | i :: is, s =>
    match exec i s with
    | .next t => execAll is t
    | .fault r => .fault r
    | .refused r => .refused r

/-- Steps one after the other, stopping at the first fault or refusal. -/
def runSteps : Nat → State → Host.Outcome State Fault Refusal
  | 0, s => .next s
  | n + 1, s =>
    match step s with
    | .next t => runSteps n t
    | .fault r => .fault r
    | .refused r => .refused r

/-- No reset is asserted in these samples. -/
def noReset (ps : List PortSample) : Prop := ∀ p ∈ ps, p.rst = false

/-- The controller gives no answer, and no reset is asserted, in these samples. -/
def noAnswer (ps : List PortSample) : Prop := ∀ p ∈ ps, p.rst = false ∧ p.enterOk = false ∧ p.enterFail = false

/-- The command passes validation (spec/42_waveform_sequencer.md R92): the counter fits nine bits and the count is positive. -/
def cmdValid (c : Cmd) : Prop := c.base.toNat + c.idx.toNat ≤ 511 ∧ c.rep ≠ 0#8

/-- The state after an accepted command that passes validation, field by field from the first row of R93 (FRAME by R46). -/
def acceptedState (c : Cmd) (s : State) : State :=
  { s with
      base := c.base, idx := c.idx, pid := c.pid, act := c.act, rep := c.rep
      frame := frameOfFields c.idx c.pid (BitVec.ofNat 9 (c.base.toNat + c.idx.toNat)) c.act
      errIdx := false, errCtr := false, errLen := false
      done := false
      radioEnterReq := true
      st := .armed
      trace := s.trace ++ [.enter] }

/-- The state after an accepted command that fails validation, field by field from the second row of R93; the cause by R131
and R80 (CTR_RANGE before REP_ZERO). -/
def rejectedState (c : Cmd) (s : State) : State :=
  { s with
      base := c.base, idx := c.idx, pid := c.pid, act := c.act, rep := c.rep
      errIdx := false, errCtr := decide (512 ≤ c.base.toNat + c.idx.toNat), errLen := false
      done := false
      result := .constructionError
      cause := if 512 ≤ c.base.toNat + c.idx.toNat then .ctrRange else .repZero
      st := .failed }

/-! ### The invariant of the sequencer -/

/-- What holds of the block while it is driven through its ports. -/
structure SequencerInv (s : State) : Prop where
  /-- No operation is presented directly (log 1). -/
  slotEmpty : s.slot = none
  /-- `EXCL = 1` iff `ST = CRITICAL_SECTION` (spec/10_state.md R14). -/
  exclIff : s.excl = true ↔ s.st = .criticalSection
  /-- Outside a burst the line is low (R16, D8). -/
  idleLow : s.st ≠ .criticalSection → s.lvl = false
  /-- Between segments of a burst the level is the last segment's: high after an odd number of segments (R103). -/
  levelAlternates : s.st = .criticalSection → s.midSegment = false → s.lvl = decide (s.pc.toNat % 2 = 1)
  /-- Inside a segment the level is its own (R98 to R102), and only a burst has segments. -/
  levelOfSegment : s.midSegment = true → s.st = .criticalSection ∧ s.pc.toNat < nseg s.rep ∧
    s.lvl = (segAt s.frame s.pc.toNat).level
  /-- `pc` never passes NSEG (R17). -/
  pcBound : s.st = .criticalSection → s.pc.toNat ≤ nseg s.rep
  /-- A command past validation has a positive count (R92). -/
  repPositive : s.st = .armed ∨ s.st = .criticalSection ∨ s.st = .exitMode → s.rep ≠ 0#8
  /-- A command past validation has a counter in range, and FRAME holds its frame (R12, R46, R76). -/
  frameBuilt : s.st = .armed ∨ s.st = .criticalSection ∨ s.st = .exitMode →
    s.base.toNat + s.idx.toNat ≤ 511 ∧
      s.frame = frameOfFields s.idx s.pid (BitVec.ofNat 9 (s.base.toNat + s.idx.toNat)) s.act
  /-- The radio is in direct mode while the burst goes out, until restore (R22). -/
  radioDirect : s.st = .criticalSection ∨ s.st = .exitMode → s.radioMode = .direct
  /-- `DONE = 1` only in IDLE (R15). -/
  doneIdle : s.done = true → s.st = .idle
  /-- The port cannot raise IDX_RANGE or LEN (R19). -/
  noIdxErr : s.errIdx = false
  noLenErr : s.errLen = false
  /-- No sleep is in progress between steps (R21, log 18). -/
  timerStopped : s.timer = 0
  /-- The reserved fields of FRAME are zero (R48). -/
  frameReserved : reservedZero s.frame

end Sys2Proof.Machine
end

