-- ==== Sys2Proof/Certificates/Slice0/Obligations.lean ====
section
/-! DEFINITION. The statements about ZPTG, from the numbered rules of spec/. -/

section Statements

open Sys2Proof Sys2Proof.Machine

/-! ### Reset -/

/-- R150 (values of spec/10_state.md R24): after reset ST = IDLE, EXCL = 0, LVL = 0, DONE = 0, the timer is not counting,
the configuration holds the documented timing constants, `cmd_ready = 1`, no outbound call was made, and the block does
nothing until a command is accepted. Registers R24 leaves unspecified are not spoken of. The model's, not the spec's: that
RADIO_MODE and the model's own fields start as they do, the trace empty (log 29, log 31, DESIGN CHOICE); that nothing is
presented where the script has ended (log 2, DESIGN CHOICE); the open parameters as constants without a value (log 22, DEDUCED). -/
def Obligations.ResetLeavesIdleBlock : Prop :=
  State.reset.st = .idle ∧ State.reset.excl = false ∧ State.reset.lvl = false ∧ State.reset.done = false ∧
  State.reset.timer = 0 ∧ State.reset.cfg = Configuration.documented ∧
  State.reset.cfg.tt =
    { syncHigh := 4000#32, syncLow := 4000#32, zero := 642#32, one := 1300#32, gap := 750#32 } ∧
  (outPorts State.reset).cmdReady = true ∧ State.reset.trace = [] ∧
  step State.reset = .next State.reset

/-- The invariant of the sequencer holds after reset. The clauses on ERR_IDX, ERR_LEN and FRAME rest on the model's reset
values (log 3, DESIGN CHOICE). The model's, not the spec's, also: the empty slot (log 1, DESIGN CHOICE); `midSegment` false
(log 25, DESIGN CHOICE). -/
def Obligations.ResetSatisfiesInvariant : Prop := SequencerInv State.reset

/-- R152 with R151 and R24: reset asserted at any state, between a segment's level write and its sleep too, takes effect at
once: the reset state of ST, EXCL, LVL, DONE and the timer, no outbound call (so no restore), the configuration as it was.
The model's choice: that reset is admitted, and RADIO_MODE and nominal time stay (log 4, DESIGN CHOICE), and that the trace
gets no `C-` where EXCL falls (log 35, DESIGN CHOICE). The model's, not the spec's, also: the ports as a script of samples
(log 2, DESIGN CHOICE). -/
def Obligations.ResetCutsAnyCommand : Prop :=
  ∀ s p rest, s.slot = none → s.inputs = p :: rest → p.rst = true →
    ∃ t, step s = .next t ∧ t.st = .idle ∧ t.excl = false ∧ t.lvl = false ∧ t.done = false ∧ t.timer = 0 ∧
      t.radioEnterReq = false ∧ t.radioRestoreReq = false ∧
      t.trace = s.trace ∧ t.radioMode = s.radioMode ∧ t.cfg = s.cfg ∧ t.elapsed = s.elapsed ∧ t.inputs = rest

/-! ### The codec -/

/-- R65, ENC on every value and width: `width` bits; in range, position p holds bit width-1-p of the value and err = 0; out
of range, zeros and err = 1. Nothing else changes. R65 takes the width as positive: that the formula holds at width 0 too is
the model's choice (log 30, DEDUCED). The model's, not the spec's, also: the field that holds what is returned (log 9,
DESIGN CHOICE). -/
def Obligations.EncodeUnsignedResult : Prop :=
  ∀ (value width : Nat) (s : State), ∃ bs err,
    exec (.enc value width) s = .next { s with ret := .bits bs err } ∧ bs.length = width ∧
    (value < 2 ^ width → err = false ∧ ∀ p, p < width → bs[p]? = some (value.testBit (width - 1 - p))) ∧
    (2 ^ width ≤ value → err = true ∧ bs = List.replicate width false)

/-- R67 and R68, ENC4 and ENC9: the bits of a value in range, most significant first; zeros and err = 1 from 16 and from 512
on, the comparison being on the whole value. Nothing else changes. The model's, not the spec's: the field that holds what is
returned (log 9, DESIGN CHOICE); that the operations take operands of any size, as the rules' functions do (log 27,
DEDUCED). -/
def Obligations.Enc4AndEnc9Results : Prop :=
  ∀ (v : Nat) (s : State),
    (v < 16 → exec (.enc4 v) s =
      .next { s with ret := .bits [v.testBit 3, v.testBit 2, v.testBit 1, v.testBit 0] false }) ∧
    (16 ≤ v → exec (.enc4 v) s = .next { s with ret := .bits [false, false, false, false] true }) ∧
    (v < 512 → exec (.enc9 v) s =
      .next { s with ret := .bits [v.testBit 8, v.testBit 7, v.testBit 6, v.testBit 5, v.testBit 4, v.testBit 3,
        v.testBit 2, v.testBit 1, v.testBit 0] false }) ∧
    (512 ≤ v → exec (.enc9 v) s =
      .next { s with ret := .bits [false, false, false, false, false, false, false, false, false] true })

/-- R69, the round trip at widths 4 and 9. -/
def Obligations.EncodeUnsignedRoundTrips : Prop :=
  ∀ v w : Nat, w = 4 ∨ w = 9 → v < 2 ^ w → valOf (encodeUnsigned v w).1 = v ∧ (encodeUnsigned v w).2 = false

/-- R70, rejection: err = 1 exactly outside `[0, 2^w)`, and then the bits are `w` zeros. The model's, not the spec's: that
the formula holds at width 0 too, where R65 takes the width as a positive integer (log 30, DEDUCED). -/
def Obligations.EncodeUnsignedRejects : Prop :=
  ∀ v w : Nat, ((encodeUnsigned v w).2 = true ↔ 2 ^ w ≤ v) ∧
    ((encodeUnsigned v w).2 = true → (encodeUnsigned v w).1 = List.replicate w false)

/-! ### The frame and its builder -/

/-- R46, R48, the layout of FRAME41: the integer form, each field's positions, most significant bit first, and zeros in the
reserved positions. That the FRAME row answers the laid-out frame and changes nothing else is the model's choice (log 10).
The model's, not the spec's, also: the field that holds what is returned (log 9, DESIGN CHOICE). -/
def Obligations.FrameLaysOutItsFields : Prop :=
  ∀ (d : BitVec 4) (p : BitVec 17) (c : BitVec 9) (a : BitVec 2) (s : State), ∃ f,
    exec (.frame d p c a) s = .next { s with ret := .frame f } ∧
    f.toNat = frameInteger d.toNat p.toNat c.toNat a.toNat ∧ reservedZero f ∧
    (∀ i, i < 4 → memReadFrame f (3 + i) = d.getMsbD i) ∧
    (∀ i, i < 17 → memReadFrame f (7 + i) = p.getMsbD i) ∧
    (∀ i, i < 9 → memReadFrame f (30 + i) = c.getMsbD i) ∧
    (∀ i, i < 2 → memReadFrame f (39 + i) = a.getMsbD i)

/-- R77 with R75 and R78: where all checks pass BUILD clears the three flags and returns the concatenation `000`, index,
protocol id, `000000`, counter `base + idx`, action, as 41 bits, first bit leftmost. Nothing else changes; FRAME is not
written (R81). The model's, not the spec's: the field that holds what is returned (log 9, DESIGN CHOICE); that the operation
takes operands of any size and length, as the rules' function does (log 27, DEDUCED). -/
def Obligations.BuildReturnsFrame : Prop :=
  ∀ (base idx : Nat) (pid act : Bits) (s : State),
    idx < 16 → base + idx ≤ 511 → pid.length + act.length = 19 →
    ∃ f str,
      exec (.build base idx pid act) s =
        .next { s with errIdx := false, errCtr := false, errLen := false, ret := .frame f } ∧
      str = [false, false, false] ++ [idx.testBit 3, idx.testBit 2, idx.testBit 1, idx.testBit 0] ++ pid ++
        [false, false, false, false, false, false] ++
        (List.range 9).map (fun p => (base + idx).testBit (8 - p)) ++ act ∧
      str.length = 41 ∧ ∀ i, i < 41 → str[i]? = some (memReadFrame f i)

/-- R82 (a) and its derived part, with R46's integer form: at the ports' widths the frame's counter substring decodes to
`base + idx`, its index substring to `idx`, its protocol id and action are the operands position for position, and its
reserved positions are zero. The model's, not the spec's: the field that holds what is returned (log 9, DESIGN CHOICE). -/
def Obligations.BuiltFrameDecodes : Prop :=
  ∀ (base idx : Nat) (pid act : Bits) (s : State),
    idx < 16 → base + idx ≤ 511 → pid.length = 17 → act.length = 2 →
    ∃ t f, exec (.build base idx pid act) s = .next t ∧ t.ret = .frame f ∧
      valOf ((List.range 9).map (fun i => memReadFrame f (30 + i))) = base + idx ∧
      valOf ((List.range 4).map (fun i => memReadFrame f (3 + i))) = idx ∧
      (List.range 17).map (fun i => memReadFrame f (7 + i)) = pid ∧
      (List.range 2).map (fun i => memReadFrame f (39 + i)) = act ∧
      reservedZero f ∧ f.toNat = frameInteger idx (valOf pid) (base + idx) (valOf act)

/-- R79 and R80: where a check fails BUILD writes all three flags, produces no frame, and the ConstructionError names the
first failed check in the order IDX_RANGE, CTR_RANGE, LEN. FRAME is not written. The model's, not the spec's: the field that
holds what is returned (log 9, DESIGN CHOICE); that the operation takes operands of any size and length, as the rules'
function does (log 27, DEDUCED). -/
def Obligations.BuildFailsClosed : Prop :=
  ∀ (base idx : Nat) (pid act : Bits) (s : State) (cause : Cause),
    16 ≤ idx ∨ 512 ≤ base + idx ∨ pid.length + act.length ≠ 19 →
    cause = (if 16 ≤ idx then .idxRange else if 512 ≤ base + idx then .ctrRange else .len) →
    exec (.build base idx pid act) s =
      .next { s with
        errIdx := decide (16 ≤ idx)
        errCtr := decide (512 ≤ base + idx)
        errLen := decide (pid.length + act.length ≠ 19)
        ret := .constructionError cause }

/-- R82, derived part: BUILD is injective on its legal domain. The model's, not the spec's: the field that holds what is
returned (log 9, DESIGN CHOICE). -/
def Obligations.BuildIsInjective : Prop :=
  ∀ (b b' d d' : Nat) (p p' a a' : Bits) (s s' t t' : State) (f : BitVec 41),
    p.length = 17 → p'.length = 17 → a.length = 2 → a'.length = 2 →
    exec (.build b d p a) s = .next t → exec (.build b' d' p' a') s' = .next t' →
    t.ret = .frame f → t'.ret = .frame f →
    b = b' ∧ d = d' ∧ p = p' ∧ a = a'

/-! ### The resolver -/

/-- R83 and R84: RESOLVE returns the CMD of the action's base and code with PROTOCOL_ID, RAISE and LOWER exchanged for index
1 and only there, PAUSE never changed; the fourth action code is ConstructionError(NONE). No flag and nothing else is
written. The model's, not the spec's: the field that holds what is returned (log 9, DESIGN CHOICE); that RESOLVE issued by
itself writes nothing else, the refusal of action 3 too (log 11, DESIGN CHOICE). -/
def Obligations.ResolveMapsActions : Prop :=
  ∀ (idx : BitVec 4) (rep : BitVec 8) (s : State) (raise lower pause : Cmd), s.cfg.hasResolve = true →
    raise = ⟨s.cfg.baseRaise, idx, s.cfg.protocolId, s.cfg.codeRaise, rep⟩ →
    lower = ⟨s.cfg.baseLower, idx, s.cfg.protocolId, s.cfg.codeLower, rep⟩ →
    pause = ⟨s.cfg.basePause, idx, s.cfg.protocolId, s.cfg.codePause, rep⟩ →
    (idx ≠ 1#4 → exec (.resolve 0#2 idx rep) s = .next { s with ret := .cmd raise }) ∧
    (idx ≠ 1#4 → exec (.resolve 1#2 idx rep) s = .next { s with ret := .cmd lower }) ∧
    (idx = 1#4 → exec (.resolve 0#2 idx rep) s = .next { s with ret := .cmd lower }) ∧
    (idx = 1#4 → exec (.resolve 1#2 idx rep) s = .next { s with ret := .cmd raise }) ∧
    exec (.resolve 2#2 idx rep) s = .next { s with ret := .cmd pause } ∧
    exec (.resolve 3#2 idx rep) s = .next { s with ret := .constructionError .none }

/-- R83, "built when HAS_RESOLVE is true": where it is false, RESOLVE is refused by name (the model's choice, log 12). -/
def Obligations.ResolveAbsentIsRefused : Prop :=
  ∀ (action : BitVec 2) (idx : BitVec 4) (rep : BitVec 8) (s : State), s.cfg.hasResolve = false →
    exec (.resolve action idx rep) s = .refused .resolveNotBuilt

/-- R83, R91, R131: the second command form presented in IDLE is resolved and its CMD accepted as a command is; the fourth
action code is refused with CONSTRUCTION_ERROR, cause NONE, no operand latched. That it is one transition is the model's
choice (log 11), that it has no effect where HAS_RESOLVE is false too (log 12), and that an answer in the same sample leaves
RADIO_MODE as it is (log 33). The model's, not the spec's, also: the ports as a script of samples (log 2, DESIGN CHOICE);
the field that holds what is returned (log 9, DESIGN CHOICE); that the request pulses fall with the next step (log 32,
DEDUCED). -/
def Obligations.ResolvedCommandIsAccepted : Prop :=
  ∀ (s q : State) (p : PortSample) (rest : List PortSample) (r : RCmd) (c : Cmd),
    s.slot = none → s.st = .idle → s.inputs = p :: rest → p.rst = false → p.cmd = some (.rcmd r) →
    q = { s with radioEnterReq := false, radioRestoreReq := false, inputs := rest } →
    (exec (.resolve r.action r.idx r.rep) s = .next { s with ret := .cmd c } → cmdValid c →
      step s = .next (acceptedState c q)) ∧
    (exec (.resolve r.action r.idx r.rep) s = .next { s with ret := .cmd c } → ¬ cmdValid c →
      step s = .next (rejectedState c q)) ∧
    (s.cfg.hasResolve = true → r.action = 3#2 →
      step s = .next { q with done := false, result := .constructionError, cause := .none, st := .failed }) ∧
    (s.cfg.hasResolve = false → step s = .next q)

/-! ### TRANSMIT -/

/-- R91, R92, the first row of R93: TRANSMIT in IDLE with a counter in range and a positive count is accepted: operands
latched, flags clear, `DONE <- 0`, FRAME holds the built frame, `radio.enter()` issued, ARMED. The model's, not the spec's:
that TRANSMIT's own step is the acceptance (log 14, DEDUCED). -/
def Obligations.TransmitAcceptsValidCommand : Prop :=
  ∀ (c : Cmd) (s : State), s.st = .idle → cmdValid c →
    exec (.transmit c.base c.idx c.pid c.act c.rep) s = .next (acceptedState c s)

/-- R92, R131, R80, the second row of R93: TRANSMIT in IDLE with a sum above 511 or a zero count takes the FAILED path with
no outbound call, CTR_RANGE reported before REP_ZERO, FRAME not written. The model's, not the spec's: that TRANSMIT's own
step is the acceptance (log 14, DEDUCED). -/
def Obligations.TransmitRejectsInvalidCommand : Prop :=
  ∀ (c : Cmd) (s : State), s.st = .idle → ¬ cmdValid c →
    exec (.transmit c.base c.idx c.pid c.act c.rep) s = .next (rejectedState c s)

/-- R91: "While `ST != IDLE` a presented command is not accepted and has no effect on the running one". The model's, not the
spec's: that the step of a command not accepted leaves the whole state (log 13, DEDUCED). -/
def Obligations.TransmitNotAcceptedWhileBusy : Prop :=
  ∀ (base : BitVec 32) (idx : BitVec 4) (pid : BitVec 17) (act : BitVec 2) (rep : BitVec 8) (s : State),
    s.st ≠ .idle → exec (.transmit base idx pid act rep) s = .next s

/-! ### Segments, macros, calls -/

/-- R98 to R102 and R97: each segment operation writes its level, sleeps for its own table entry, advances nominal time by
exactly that, and adds 1 to pc; nothing else changes. The model's, not the spec's: that the operation, issued by itself,
runs in any state, outside the critical section too, where R114 has no GPIO call issued (log 16, DESIGN CHOICE), and in one
step (log 25, DESIGN CHOICE); that pc, which R17 says never wraps, wraps at 2^15 where no burst comes (log 17, DESIGN
CHOICE); TIMER, which R21 lets a model leave out, held and 0 again after the step (log 18, DEDUCED). -/
def Obligations.SegmentsDriveSleepAdvance : Prop :=
  ∀ s : State,
    exec .syncH s = .next { s with
      lvl := true
      trace := s.trace ++ [.high, .sleep s.cfg.tt.syncHigh]
      timer := 0
      elapsed := s.elapsed + s.cfg.tt.syncHigh.toNat
      pc := s.pc + 1 } ∧
    exec .syncL s = .next { s with
      lvl := false
      trace := s.trace ++ [.low, .sleep s.cfg.tt.syncLow]
      timer := 0
      elapsed := s.elapsed + s.cfg.tt.syncLow.toNat
      pc := s.pc + 1 } ∧
    exec .bit0H s = .next { s with
      lvl := true
      trace := s.trace ++ [.high, .sleep s.cfg.tt.zero]
      timer := 0
      elapsed := s.elapsed + s.cfg.tt.zero.toNat
      pc := s.pc + 1 } ∧
    exec .bit1H s = .next { s with
      lvl := true
      trace := s.trace ++ [.high, .sleep s.cfg.tt.one]
      timer := 0
      elapsed := s.elapsed + s.cfg.tt.one.toNat
      pc := s.pc + 1 } ∧
    exec .gapL s = .next { s with
      lvl := false
      trace := s.trace ++ [.low, .sleep s.cfg.tt.gap]
      timer := 0
      elapsed := s.elapsed + s.cfg.tt.gap.toNat
      pc := s.pc + 1 }

/-- R104, EMIT_SYNC: start-marker high, start-marker low, three times; with the documented table 24000 microseconds; and it
is its expansion. The model's, not the spec's: that the operation, issued by itself, runs in any state, outside the critical
section too, where R114 has no GPIO call issued (log 16, DESIGN CHOICE), and in one step (log 25, DESIGN CHOICE); that pc,
which R17 says never wraps, wraps at 2^15 where no burst comes (log 17, DESIGN CHOICE); TIMER, which R21 lets a model leave
out, held and 0 again after the step (log 18, DEDUCED). -/
def Obligations.EmitSyncIsThreePairs : Prop :=
  ∀ s : State,
    exec .emitSync s = .next { s with
      lvl := false
      trace := s.trace ++
        [.high, .sleep s.cfg.tt.syncHigh, .low, .sleep s.cfg.tt.syncLow, .high, .sleep s.cfg.tt.syncHigh, .low,
          .sleep s.cfg.tt.syncLow, .high, .sleep s.cfg.tt.syncHigh, .low, .sleep s.cfg.tt.syncLow]
      timer := 0
      elapsed := s.elapsed + 3 * (s.cfg.tt.syncHigh.toNat + s.cfg.tt.syncLow.toNat)
      pc := s.pc + 6 } ∧
    exec .emitSync s = execAll [.syncH, .syncL, .syncH, .syncL, .syncH, .syncL] s ∧
    3 * (TimingTable.documented.syncHigh.toNat + TimingTable.documented.syncLow.toNat) = 24000

/-- R105, EMIT_BIT(b): high for the bit's own time, then low for the gap; with the documented table 2050 microseconds for a
1 and 1392 for a 0; and it is its expansion. The model's, not the spec's: that the operation, issued by itself, runs in any
state, outside the critical section too, where R114 has no GPIO call issued (log 16, DESIGN CHOICE), and in one step (log
25, DESIGN CHOICE); that pc, which R17 says never wraps, wraps at 2^15 where no burst comes (log 17, DESIGN CHOICE); TIMER,
which R21 lets a model leave out, held and 0 again after the step (log 18, DEDUCED). -/
def Obligations.EmitBitIsHighThenGap : Prop :=
  ∀ (b : Fin 41) (s : State) (h : BitVec 32),
    h = (if memReadFrame s.frame b.val then s.cfg.tt.one else s.cfg.tt.zero) →
    exec (.emitBit b) s = .next { s with
      lvl := false
      trace := s.trace ++ [.high, .sleep h, .low, .sleep s.cfg.tt.gap]
      timer := 0
      elapsed := s.elapsed + (h.toNat + s.cfg.tt.gap.toNat)
      pc := s.pc + 2 } ∧
    exec (.emitBit b) s = execAll [if memReadFrame s.frame b.val then .bit1H else .bit0H, .gapL] s ∧
    TimingTable.documented.one.toNat + TimingTable.documented.gap.toNat = 2050 ∧
    TimingTable.documented.zero.toNat + TimingTable.documented.gap.toNat = 1392

/-- R106, EMIT_FRAME: EMIT_BIT(0) to EMIT_BIT(40) in order, 82 segments, in the time `41 x gap + zeros x zero + ones x one`;
it ends low and changes nothing else. The model's, not the spec's: that the operation, issued by itself, runs in any state,
outside the critical section too, where R114 has no GPIO call issued (log 16, DESIGN CHOICE), and in one step (log 25,
DESIGN CHOICE); that pc, which R17 says never wraps, wraps at 2^15 where no burst comes (log 17, DESIGN CHOICE); TIMER,
which R21 lets a model leave out, held and 0 again after the step (log 18, DEDUCED). -/
def Obligations.EmitFrameIsFortyOneBits : Prop :=
  ∀ s : State,
    exec .emitFrame s = execAll ((List.finRange 41).map Instr.emitBit) s ∧
    ∃ es, exec .emitFrame s = .next { s with
      lvl := false
      trace := s.trace ++ es
      timer := 0
      elapsed := s.elapsed + (41 * s.cfg.tt.gap.toNat + (41 - onesIn s.frame) * s.cfg.tt.zero.toNat +
        onesIn s.frame * s.cfg.tt.one.toNat)
      pc := s.pc + 82 } ∧
    es.length = 164 ∧
    ∀ i, i < 41 → (es.drop (4 * i)).take 4 =
      [.high, .sleep (if memReadFrame s.frame i then s.cfg.tt.one else s.cfg.tt.zero), .low, .sleep s.cfg.tt.gap]

/-- R110 to R113 with the arcs of R93: what the four system operations do. That each takes the whole arc it is issued on, in
any state, is the model's choice (log 15); where the controller does not honour restore, the mode is a free value (log 6).
The model's, not the spec's, also: that EXCL_ENTER clears `midSegment` (log 25, DESIGN CHOICE). -/
def Obligations.SystemOperationsTakeTheirArcs : Prop :=
  ∀ s : State,
    exec .radioEnter s = .next { s with radioEnterReq := true, st := .armed, trace := s.trace ++ [.enter] } ∧
    exec .exclEnter s = .next { s with
      excl := true, pc := 0, midSegment := false, st := .criticalSection, trace := s.trace ++ [.exclOn] } ∧
    exec .exclExit s = .next { s with excl := false, st := .exitMode, trace := s.trace ++ [.exclOff] } ∧
    (s.restoreHonoured = true → exec .radioRestore s = .next { s with
      radioMode := .normal, radioRestoreReq := true
      result := .success, cause := .none, done := true, st := .idle
      trace := s.trace ++ [.restore] }) ∧
    (s.restoreHonoured = false → exec .radioRestore s = .next { s with
      radioMode := Config.radioModeAfterRestore s.draws, draws := s.draws + 1, radioRestoreReq := true
      result := .success, cause := .none, done := true, st := .idle
      trace := s.trace ++ [.restore] })

/-- R33, R114, R115: the GPIO write sets LVL and is the call setHigh or setLow; SLEEP_US is the call of d microseconds and
advances nominal time by exactly d, leaving the timer not counting. Nothing else changes. The model's, not the spec's: that
the operation, issued by itself, runs in any state, where R114 has the GPIO calls issued only inside the critical section
and R115 passes only table values (log 16, DESIGN CHOICE); TIMER, which R21 lets a model leave out, held and 0 again after
the step (log 18, DEDUCED). -/
def Obligations.PrimitivesWriteLevelAndSleep : Prop :=
  ∀ (d : BitVec 32) (s : State),
    exec .gpioHigh s = .next { s with lvl := true, trace := s.trace ++ [.high] } ∧
    exec .gpioLow s = .next { s with lvl := false, trace := s.trace ++ [.low] } ∧
    exec (.sleepUs d) s = .next { s with timer := 0, elapsed := s.elapsed + d.toNat, trace := s.trace ++ [.sleep d] }

/-! ### Encoding -/

/-- R45 to R55: every well-formed operation, at every operand its encoding admits, is read back from its own encoding, under
any timing table whose SEG33 words are distinct (R55). -/
def Obligations.DecodeOfEncode : Prop :=
  ∀ (tt : TimingTable) (i : Instr), tt.distinct = true → i.wf = true → decode tt (encode tt i) = .ok i

/-- R45: a string has one meaning in its format: what decodes to an operation is that operation's encoding. ENC is not spoken
of: its value has no size (R65) and may be written with leading zeros (log 20). -/
def Obligations.EncodeOfDecode : Prop :=
  ∀ (tt : TimingTable) (q : Request) (i : Instr), (∀ w, q.fmt ≠ .func w) → decode tt q = .ok i → encode tt i = q

/-- R45, R65: the decoder answers well-formed operations only. The model's, not the spec's: the presentation by format and
string (log 20, DESIGN CHOICE); that ENC at width 0 is refused (log 23, DEDUCED). -/
def Obligations.DecodedOperationsAreWellFormed : Prop :=
  ∀ (tt : TimingTable) (q : Request) (i : Instr), decode tt q = .ok i → i.wf = true

/-- R48, R56, U13, U17: a presented frame string with a 1 in a reserved position, and a presented SEG33 word that is none of
the five, stop with the decoder's faults. The model's, not the spec's: that an operation is presented through `slot` (log 1,
DESIGN CHOICE); that the decoder's report is a fault of the model (log 23, DEDUCED). -/
def Obligations.IllegalWordsFault : Prop :=
  ∀ (s : State) (bs : Bits),
    (s.slot = some ⟨.frame41, bs⟩ → bs.length = 41 →
      (∃ i, (i < 3 ∨ (24 ≤ i ∧ i < 30)) ∧ bs[i]? = some true) → step s = .fault .notAZptgFrame) ∧
    (s.slot = some ⟨.seg33, bs⟩ → bs.length = 33 → (∀ k : SegKind, bs ≠ segWord s.cfg.tt k) →
      step s = .fault .illegalSegment)

/-- R55: SEG33 words are decodable back into operations exactly when the timing table is distinct. The model's, not the
spec's: the presentation by format and string (log 20, DESIGN CHOICE). -/
def Obligations.SegmentWordsDecodableIffDistinct : Prop :=
  ∀ tt : TimingTable, tt.distinct = true ↔ ∀ k : SegKind, decode tt ⟨.seg33, segWord tt k⟩ = .ok k.instr

/-- Words written out from R46, R51, R52, R55 decode to what they stand for (the strings of spec/95_test_vectors.md P1, S1,
P4, and of R55 and R115). How a bare table word finds its format is the model's choice (log 20, DESIGN CHOICE): the rounding
of 63, 41 and 33 bits to 64, 48 and 40, and that a bare 16-bit word 0x0101 is read as ENC9's and not as RESOLVE's, whose
string P4 writes so too and which is presented in its own format. -/
def Obligations.WrittenOutWordsDecode : Prop :=
  decodeTableWord 64 0x000000AD104E7C03 = some (.transmit 346 2 0b00001001110011111 0b00 3) ∧
  decodeTableWord 48 0x008273E0570 = some (.frame 0b0010 0b00001001110011111 0b101011100 0b00) ∧
  decodeTableWord 16 0x0101 = some (.enc9 257) ∧
  decode .documented ⟨.rcmd, [false, false, false, false, false, true, false, false, false, false, false, false, false,
    true]⟩ = .ok (.resolve 0 1 1) ∧
  decodeTableWord 40 0x100000FA0 = some .syncH ∧
  decodeTableWord 40 0x000000FA0 = some .syncL ∧
  decodeTableWord 40 0x100000282 = some .bit0H ∧
  decodeTableWord 40 0x100000514 = some .bit1H ∧
  decodeTableWord 40 0x0000002EE = some .gapL ∧
  decodeTableWord 32 750 = some (.sleepUs 750)

/-! ### The step -/

/-- R45, R60, log 1: a step on a presented operation that decodes runs exactly that operation, at the state in which the
request is taken and the request pulses have fallen. The model's, not the spec's, also: the presentation by format and
string (log 20, DESIGN CHOICE); that the request pulses fall with the next step (log 32, DEDUCED). -/
def Obligations.StepRunsPresentedOperation : Prop :=
  ∀ (s : State) (q : Request) (i : Instr), s.slot = some q → decode s.cfg.tt q = .ok i →
    step s = exec i { s with slot := none, radioEnterReq := false, radioRestoreReq := false }

/-- R93, every row: the FSM's step on one sample of the ports, with its actions in order, and that in a condition not listed
it stays where it is. The row of a segment takes two steps, one for each outbound call (R7; log 25). `q` is the state with
the sample past and the request pulses fallen. The mode after `fail` is a free value (R22, log 5), that after a restore not
honoured too (log 6); that an answer outside ARMED leaves the mode as it is is the model's choice (log 33). The model's, not
the spec's, also: the ports as a script of samples (log 2, DESIGN CHOICE); that the request pulses fall with the next step
(log 32, DEDUCED); that the wait, which R110 calls stuck, is steps in ARMED (log 7, DEDUCED); TIMER, which R21 lets a model
leave out, held and 0 again after the step (log 18, DEDUCED); pc past NSEG as a condition not listed (log 24, DEDUCED). -/
def Obligations.FsmFollowsTransitionTable : Prop :=
  ∀ (s q : State) (p : PortSample) (rest : List PortSample),
    s.slot = none → s.inputs = p :: rest → p.rst = false →
    q = { s with radioEnterReq := false, radioRestoreReq := false, inputs := rest } →
    (∀ c, s.st = .idle → p.cmd = some (.cmd c) → cmdValid c → step s = .next (acceptedState c q)) ∧
    (∀ c, s.st = .idle → p.cmd = some (.cmd c) → ¬ cmdValid c → step s = .next (rejectedState c q)) ∧
    (s.st = .idle → p.cmd = none → step s = .next q) ∧
    (s.st = .armed → p.enterOk = true → p.enterFail = false → step s = .next { q with
      radioMode := .direct, excl := true, pc := 0, midSegment := false, st := .criticalSection
      trace := s.trace ++ [.exclOn] }) ∧
    (s.st = .armed → p.enterOk = false → p.enterFail = true → step s = .next { q with
      radioMode := Config.radioModeAfterFail s.draws, draws := s.draws + 1
      result := .modeEntryError, cause := .none, st := .failed }) ∧
    (s.st = .armed → p.enterOk = false → p.enterFail = false → step s = .next q) ∧
    (s.st = .criticalSection → s.pc.toNat < nseg s.rep → s.midSegment = false → step s = .next { q with
      lvl := (segAt s.frame s.pc.toNat).level
      midSegment := true
      trace := s.trace ++ [if (segAt s.frame s.pc.toNat).level then .high else .low] }) ∧
    (s.st = .criticalSection → s.pc.toNat < nseg s.rep → s.midSegment = true → step s = .next { q with
      midSegment := false
      trace := s.trace ++ [.sleep (s.cfg.tt.entry (segAt s.frame s.pc.toNat))]
      timer := 0
      elapsed := s.elapsed + (s.cfg.tt.entry (segAt s.frame s.pc.toNat)).toNat
      pc := s.pc + 1 }) ∧
    (s.st = .criticalSection → s.pc.toNat = nseg s.rep → step s = .next { q with
      excl := false, st := .exitMode, trace := s.trace ++ [.exclOff] }) ∧
    (s.st = .criticalSection → nseg s.rep < s.pc.toNat → step s = .next q) ∧
    (s.st = .exitMode → step s = .next { q with
      radioMode := if s.restoreHonoured then .normal else Config.radioModeAfterRestore s.draws
      draws := if s.restoreHonoured then s.draws else s.draws + 1
      radioRestoreReq := true, result := .success, cause := .none, done := true, st := .idle
      trace := s.trace ++ [.restore] }) ∧
    (s.st = .failed → step s = .next { q with done := true, st := .idle })

/-- R93 ("execute `seg(pc)`"), R96, R7: from the start of a segment the FSM's next two steps, one outbound call each, do
what the segment operation of `seg(pc)` does, and nothing else. That a segment takes two steps (log 25) and that answers
there leave RADIO_MODE as it is (log 33) are the model's choices. The model's, not the spec's, also: the ports as a script
of samples (log 2, DESIGN CHOICE); that the request pulses fall with the next step (log 32, DEDUCED). -/
def Obligations.SegmentTakesTwoCalls : Prop :=
  ∀ s : State, s.slot = none → s.st = .criticalSection → s.pc.toNat < nseg s.rep → s.midSegment = false →
    noReset s.inputs →
    runSteps 2 s = exec (segAt s.frame s.pc.toNat).instr
      { s with radioEnterReq := false, radioRestoreReq := false, inputs := s.inputs.drop 2 }

/-- R26 ("exactly one of them pulsed"), U15: both answer lines pulsed at once in ARMED are refused (the model's choice, log
8). The model's, not the spec's, also: the ports as a script of samples (log 2, DESIGN CHOICE). -/
def Obligations.BothAnswersAreRefused : Prop :=
  ∀ (s : State) (p : PortSample) (rest : List PortSample),
    s.slot = none → s.st = .armed → s.inputs = p :: rest → p.rst = false → p.enterOk = true → p.enterFail = true →
    step s = .refused .bothAnswers

/-- R91, R110, R116: the ports count only where the table of R93 reads them: outside IDLE the command lines are ignored,
outside ARMED the controller's answer is. R110 says so of the block; that RADIO_MODE, a part of the next state, does not
depend on an answer outside ARMED either is the model's choice (log 33, DESIGN CHOICE). The model's, not the spec's, also:
the ports as a script of samples (log 2, DESIGN CHOICE). -/
def Obligations.PortsIgnoredWhereNotRead : Prop :=
  ∀ (s : State) (p : PortSample) (rest : List PortSample) (cmd : Option HostCommand) (ok fail : Bool),
    s.slot = none →
    (s.st ≠ .idle → step { s with inputs := p :: rest } = step { s with inputs := { p with cmd := cmd } :: rest }) ∧
    (s.st ≠ .armed → step { s with inputs := p :: rest } =
      step { s with inputs := { p with enterOk := ok, enterFail := fail } :: rest })

/-- R26, R57: the level outputs: `cmd_ready = 1` iff ST = IDLE; the codes of RESULT and CAUSE and their packing. -/
def Obligations.OutputPortsShowRegisters : Prop :=
  (∀ s : State, ((outPorts s).cmdReady = true ↔ s.st = .idle) ∧ (outPorts s).gpio = s.lvl ∧ (outPorts s).excl = s.excl ∧
    (outPorts s).done = s.done ∧
    (resRecord s).toNat = 8 * (outPorts s).result.toNat + (outPorts s).cause.toNat) ∧
  resultCode .success = 0#2 ∧ resultCode .constructionError = 1#2 ∧ resultCode .modeEntryError = 2#2 ∧
  causeCode .none = 0#3 ∧ causeCode .idxRange = 1#3 ∧ causeCode .ctrRange = 2#3 ∧ causeCode .len = 3#3 ∧
  causeCode .repZero = 4#3

/-! ### The burst -/

/-- R96: which segment stands at each position of repetition r, and that a position of a burst that reads the frame lies in
one of its REP repetitions and reads one of its 41 bits (R32). -/
def Obligations.SegmentAtEachPosition : Prop :=
  ∀ (f : BitVec 41) (rep : BitVec 8) (r : Nat),
    (∀ i, i < 3 → segAt f (88 * r + 2 * i) = .syncH ∧ segAt f (88 * r + 2 * i + 1) = .syncL) ∧
    (∀ b, b < 41 → segAt f (88 * r + 6 + 2 * b) = (if memReadFrame f b then .bit1H else .bit0H) ∧
      segAt f (88 * r + 6 + 2 * b + 1) = .gapL) ∧
    (∀ k, k < nseg rep → 6 ≤ k % 88 → k / 88 < rep.toNat ∧ (k % 88 - 6) / 2 < 41)

/-- R103: a segment drives high at an even position and low at an odd one, so the level changes at every boundary, a burst
begins high and ends low. -/
def Obligations.LevelAlternates : Prop :=
  ∀ (f : BitVec 41) (rep : BitVec 8) (k : Nat),
    ((segAt f k).level = true ↔ k % 2 = 0) ∧ (segAt f k).level ≠ (segAt f (k + 1)).level ∧
    (segAt f 0).level = true ∧ (segAt f (nseg rep - 1)).level = false

/-- R95: the flat counter's burst is the source's nested loops: REP repetitions of a sync burst and the 41 cells, then one
more sync burst. -/
def Obligations.FlatBurstIsNestedLoops : Prop :=
  ∀ (f : BitVec 41) (rep : BitVec 8), burstKinds f rep = nestedBurst f rep

/-- R107 and the counts of R98, R99, R102: how often each operation, each level write and each sleep occurs in a burst. -/
def Obligations.BurstCounts : Prop :=
  ∀ (tt : TimingTable) (f : BitVec 41) (rep : BitVec 8),
    (burstKinds f rep).length = 88 * rep.toNat + 6 ∧
    (burstKinds f rep).count .syncH = 3 * (rep.toNat + 1) ∧
    (burstKinds f rep).count .syncL = 3 * (rep.toNat + 1) ∧
    (burstKinds f rep).count .bit1H = rep.toNat * onesIn f ∧
    (burstKinds f rep).count .bit0H = rep.toNat * (41 - onesIn f) ∧
    (burstKinds f rep).count .gapL = 41 * rep.toNat ∧
    (burstEvents tt f rep).count .high = 44 * rep.toNat + 3 ∧
    (burstEvents tt f rep).count .low = 44 * rep.toNat + 3 ∧
    (burstEvents tt f rep).countP Event.isSleep = 88 * rep.toNat + 6

/-- R108: the nominal duration of the critical section, in general and with the documented table, and its bounds for the
frames BUILD can make (reserved positions zero, so at most 32 ones). -/
def Obligations.BurstDuration : Prop :=
  ∀ (tt : TimingTable) (f : BitVec 41) (rep : BitVec 8),
    totalTime tt (burstKinds f rep) =
      rep.toNat * (3 * (tt.syncHigh.toNat + tt.syncLow.toNat) + 41 * tt.gap.toNat + (41 - onesIn f) * tt.zero.toNat +
        onesIn f * tt.one.toNat) + 3 * (tt.syncHigh.toNat + tt.syncLow.toNat) ∧
    totalTime .documented (burstKinds f rep) =
      rep.toNat * (54750 + 642 * (41 - onesIn f) + 1300 * onesIn f) + 24000 ∧
    (reservedZero f → onesIn f ≤ 32 ∧
      81072 ≤ 54750 + 642 * (41 - onesIn f) + 1300 * onesIn f ∧
      54750 + 642 * (41 - onesIn f) + 1300 * onesIn f ≤ 102128 ∧
      totalTime .documented (burstKinds f rep) ≤ 26066640)

/-! ### Whole commands -/

/-- R90, the third shape of R43, R117: a valid command presented in IDLE, any wait, the answer `ok`, and no reset: after
acceptance, the wait, the answer, NSEG segments of two steps each, the end of the section and the restore, the block is in
IDLE with SUCCESS; the calls were `E C+`, the burst of the built frame, `C- X`; nominal time advanced by the burst's; EXCL
and LVL are 0; the radio is back in normal mode where the controller honours restore (log 6). That answers outside ARMED
leave RADIO_MODE as it is, is the model's choice (log 33). The model's, not the spec's, also: the number of steps, one for
each row of R93 and two for a segment (log 25, DESIGN CHOICE), and `midSegment` false at the end; the ports as a script of
samples (log 2, DESIGN CHOICE); that the wait, which R110 calls stuck, is steps in ARMED (log 7, DEDUCED); that the request
pulses fall with the next step (log 32, DEDUCED); TIMER, which R21 lets a model leave out, held and 0 again after the step
(log 18, DEDUCED). -/
def Obligations.CommandRunsToSuccess : Prop :=
  ∀ (s : State) (c : Cmd) (p₀ p₁ : PortSample) (waits rest : List PortSample) (f : BitVec 41),
    s.slot = none → s.st = .idle → cmdValid c →
    s.inputs = p₀ :: (waits ++ p₁ :: rest) →
    p₀.rst = false → p₀.cmd = some (.cmd c) → noAnswer waits →
    p₁.rst = false → p₁.enterOk = true → p₁.enterFail = false → noReset rest →
    f = frameOfFields c.idx c.pid (BitVec.ofNat 9 (c.base.toNat + c.idx.toNat)) c.act →
    runSteps (waits.length + 2 * nseg c.rep + 4) s = .next { s with
      base := c.base, idx := c.idx, pid := c.pid, act := c.act, rep := c.rep, frame := f
      pc := BitVec.ofNat 15 (nseg c.rep)
      errIdx := false, errCtr := false, errLen := false
      st := .idle, excl := false, result := .success, cause := .none, done := true, lvl := false, timer := 0
      midSegment := false
      radioEnterReq := false, radioRestoreReq := true
      radioMode := if s.restoreHonoured then .normal else Config.radioModeAfterRestore s.draws
      draws := if s.restoreHonoured then s.draws else s.draws + 1
      inputs := rest.drop (2 * nseg c.rep + 2)
      trace := s.trace ++ [.enter, .exclOn] ++ burstEvents s.cfg.tt f c.rep ++ [.exclOff, .restore]
      elapsed := s.elapsed + totalTime s.cfg.tt (burstKinds f c.rep) }

/-- R94, R132, R133, the second shape of R43: a valid command whose entry is answered `fail`: the only call is `E`, no
pulse, no critical section, no restore; MODE_ENTRY_ERROR, cause NONE, IDLE again. The radio's mode is a free value (R22, log
5), which answers outside ARMED leave as it is (log 33). The model's, not the spec's, also: the number of steps, one for
each row of R93 (log 25, DESIGN CHOICE); the ports as a script of samples (log 2, DESIGN CHOICE); that the wait, which R110
calls stuck, is steps in ARMED (log 7, DEDUCED); that the request pulses fall with the next step (log 32, DEDUCED). -/
def Obligations.FailedEntryEmitsNothing : Prop :=
  ∀ (s : State) (c : Cmd) (p₀ p₁ : PortSample) (waits rest : List PortSample),
    s.slot = none → s.st = .idle → cmdValid c →
    s.inputs = p₀ :: (waits ++ p₁ :: rest) →
    p₀.rst = false → p₀.cmd = some (.cmd c) → noAnswer waits →
    p₁.rst = false → p₁.enterOk = false → p₁.enterFail = true → noReset rest →
    runSteps (waits.length + 3) s = .next { acceptedState c s with
      radioEnterReq := false, radioRestoreReq := false
      radioMode := Config.radioModeAfterFail s.draws, draws := s.draws + 1
      result := .modeEntryError, cause := .none, done := true, st := .idle
      inputs := rest.tail }

/-- R92, R133, R136, the first shape of R43: a command that fails validation makes no outbound call at all, whatever the
controller would have answered; two transitions later it is reported in IDLE. That an unasked answer leaves RADIO_MODE as it
is, is the model's choice (log 33). The model's, not the spec's, also: the number of steps, one for each row of R93 (log 25,
DESIGN CHOICE); the ports as a script of samples (log 2, DESIGN CHOICE); that the request pulses fall with the next step
(log 32, DEDUCED). -/
def Obligations.RejectedCommandMakesNoCall : Prop :=
  ∀ (s : State) (c : Cmd) (p₀ : PortSample) (rest : List PortSample),
    s.slot = none → s.st = .idle → ¬ cmdValid c → s.inputs = p₀ :: rest →
    p₀.rst = false → p₀.cmd = some (.cmd c) → noReset rest →
    runSteps 2 s = .next { rejectedState c s with
      radioEnterReq := false, radioRestoreReq := false, done := true, st := .idle, inputs := rest.tail }

/-- R110, D17: with no answer the FSM stays in ARMED for ever: any number of steps changes nothing but the samples gone past
and the request pulses fallen. The model's, not the spec's: that the wait, which R110 calls stuck, is shown by steps that
change nothing else (log 7, DEDUCED); the ports as a script of samples (log 2, DESIGN CHOICE); that the request pulses fall
with the next step (log 32, DEDUCED). -/
def Obligations.UnansweredStaysArmed : Prop :=
  ∀ (s : State) (n : Nat), s.slot = none → s.st = .armed → noAnswer s.inputs →
    runSteps (n + 1) s = .next { s with
      radioEnterReq := false, radioRestoreReq := false, inputs := s.inputs.drop (n + 1) }

/-- R113, R116: a critical section once entered always completes: from any position of the burst, a segment's middle among
them, with no reset, the block leaves it and restores the radio's mode within the calls left and two steps more, and reports
SUCCESS. The model's, not the spec's: the number of steps, one for each row of R93 and two for a segment, the premise on
`midSegment` and its value at the end (log 25, DESIGN CHOICE); the ports as a script of samples (log 2, DESIGN CHOICE);
TIMER, which R21 lets a model leave out, held and 0 again after the step (log 18, DEDUCED). -/
def Obligations.CriticalSectionAlwaysEnds : Prop :=
  ∀ (s : State), s.slot = none → s.st = .criticalSection → s.pc.toNat ≤ nseg s.rep →
    (s.midSegment = true → s.pc.toNat < nseg s.rep) → noReset s.inputs →
    ∃ t, runSteps (2 * (nseg s.rep - s.pc.toNat) - s.midSegment.toNat + 2) s = .next t ∧
      t.st = .idle ∧ t.excl = false ∧ t.done = true ∧ t.result = .success ∧ t.pc.toNat = nseg s.rep ∧
      t.midSegment = false ∧
      t.trace = s.trace ++
        ((((List.range (nseg s.rep)).drop s.pc.toNat).map (segAt s.frame)).flatMap (segEvents s.cfg.tt)).drop
          s.midSegment.toNat ++ [.exclOff, .restore]

/-- R109, R38: the calls made are a function of the operands, the configuration and the controller's answer: two blocks in
IDLE with the same configuration and the same samples to come, whatever their registers hold from earlier commands, make the
same calls in the same order, take the same time and stand in the same FSM state after any number of steps; or both are
refused alike. The model's, not the spec's: the ports as a script of samples (log 2, DESIGN CHOICE); that a reset among the
samples is admitted (log 4, DESIGN CHOICE) and leaves the trace (log 35, DESIGN CHOICE); one trace over the whole history
(log 29, DESIGN CHOICE); the refusal of both answers at once (log 8, DESIGN CHOICE). -/
def Obligations.TraceIsFunctionOfInputs : Prop :=
  ∀ (s₁ s₂ : State) (n : Nat),
    s₁.slot = none → s₂.slot = none → s₁.st = .idle → s₂.st = .idle → s₁.cfg = s₂.cfg → s₁.inputs = s₂.inputs →
    (∃ t₁ t₂ es, runSteps n s₁ = .next t₁ ∧ runSteps n s₂ = .next t₂ ∧
      t₁.trace = s₁.trace ++ es ∧ t₂.trace = s₂.trace ++ es ∧ t₁.st = t₂.st ∧
      t₁.elapsed - s₁.elapsed = t₂.elapsed - s₂.elapsed) ∨
    (∃ r, runSteps n s₁ = .refused r ∧ runSteps n s₂ = .refused r)

/-! ### The machine as a whole -/

/-- The invariant of the sequencer (its clauses cite R12, R14, R15, R16, R17, R19, R22, R48, R92, R103) is kept by every
step from every state that has it. Its clauses on an empty slot, a stopped timer and the place inside a segment are the
model's own (log 1, log 18, log 25); after a reset those on ERR_IDX, ERR_LEN and FRAME rest on log 3; that an answer outside
ARMED does not end the radio's direct mode is log 33 (DESIGN CHOICE). The model's, not the spec's, also: that a reset is
admitted in any state (log 4, DESIGN CHOICE). -/
def Obligations.EveryStepKeepsInvariant : Prop :=
  ∀ s t : State, SequencerInv s → step s = .next t → SequencerInv t

/-- R7, R39, R114, R112, R113, R111, R110: one step of the FSM makes at most one outbound call: none, or `E` on the arc IDLE
to ARMED, or `C+` on ARMED to CRITICAL_SECTION, or inside CRITICAL_SECTION a segment's level write or, after it, its sleep
with `pc <- pc + 1`, or `C-` at the end of the burst, or `X` on EXIT_MODE to IDLE; and the line changes only with a level
write or a reset. That a segment takes two steps (log 25) and that a reset that drops EXCL appends no `C-` (log 35) are the
model's choices. The model's, not the spec's, also: that a reset is admitted in any state (log 4, DESIGN CHOICE); the ports
as a script of samples (log 2, DESIGN CHOICE). -/
def Obligations.CallsStandOnTheirArcs : Prop :=
  ∀ s t : State, s.slot = none → step s = .next t → ∃ es, t.trace = s.trace ++ es ∧
    (es = [] ∨
      (es = [.enter] ∧ s.st = .idle ∧ t.st = .armed) ∨
      (es = [.exclOn] ∧ s.st = .armed ∧ t.st = .criticalSection) ∨
      (es = [if (segAt s.frame s.pc.toNat).level then .high else .low] ∧
        t.lvl = (segAt s.frame s.pc.toNat).level ∧ s.st = .criticalSection ∧
        t.st = .criticalSection ∧ s.midSegment = false ∧ t.midSegment = true ∧ t.pc = s.pc) ∨
      (es = [.sleep (s.cfg.tt.entry (segAt s.frame s.pc.toNat))] ∧ s.st = .criticalSection ∧
        t.st = .criticalSection ∧ s.midSegment = true ∧ t.midSegment = false ∧ t.pc = s.pc + 1) ∨
      (es = [.exclOff] ∧ s.st = .criticalSection ∧ s.pc.toNat = nseg s.rep ∧ t.st = .exitMode) ∨
      (es = [.restore] ∧ s.st = .exitMode ∧ t.st = .idle)) ∧
    ((∀ e ∈ es, e.isLevelWrite = false) → t.lvl = s.lvl ∨ (t.lvl = false ∧ (samplePorts s).rst = true))

/-- R162: every step, of the FSM or of any presented operation, appends calls to the trace, and nominal time advances by
exactly the sleeps among them. The model's, not the spec's: operations presented through `slot` (log 1, DESIGN CHOICE);
TIMER, which R21 lets a model leave out, held and 0 again after the step (log 18, DEDUCED); one trace and one clock over the
whole history (log 29, DESIGN CHOICE), which a reset leaves (log 4, log 35, DESIGN CHOICE). -/
def Obligations.TimeAdvancesBySleepsOnly : Prop :=
  ∀ s t : State, step s = .next t → ∃ es, t.trace = s.trace ++ es ∧ t.elapsed = s.elapsed + (es.map Event.time).sum

/-- R20, R41: no step, of the FSM or of any presented operation, writes the configuration. The model's, not the spec's:
operations presented through `slot` (log 1, DESIGN CHOICE); the configuration as a field of the state (log 22, DEDUCED). -/
def Obligations.ConfigurationIsReadOnly : Prop :=
  ∀ s t : State, step s = .next t → t.cfg = s.cfg

/-- R11, R12, R41: outside IDLE and without a reset, no transition of the FSM writes an operand register, FRAME or an error
flag; and no presented operation but TRANSMIT in IDLE writes an operand register or FRAME. The model's, not the spec's:
operations presented through `slot` (log 1, DESIGN CHOICE), among them the row FRAME, which does not write the register (log
10, DESIGN CHOICE), and RESOLVE, which writes no operand register (log 11, DESIGN CHOICE). -/
def Obligations.OperandsHeldDuringCommand : Prop :=
  (∀ s t : State, s.slot = none → s.st ≠ .idle → (samplePorts s).rst = false → step s = .next t →
    t.base = s.base ∧ t.idx = s.idx ∧ t.pid = s.pid ∧ t.act = s.act ∧ t.rep = s.rep ∧ t.frame = s.frame ∧
    t.errIdx = s.errIdx ∧ t.errCtr = s.errCtr ∧ t.errLen = s.errLen) ∧
  (∀ (i : Instr) (s t : State), (∀ b d p a r, i = .transmit b d p a r → s.st ≠ .idle) → exec i s = .next t →
    t.base = s.base ∧ t.idx = s.idx ∧ t.pid = s.pid ∧ t.act = s.act ∧ t.rep = s.rep ∧ t.frame = s.frame)

end Statements
end

