-- ==== Sys2Proof/Laws/Bits.lean ====
section
/-! SUPPORT. Bit strings and numbers: lengths, and what reading back a written string gives. -/

namespace Sys2Proof

@[simp] theorem bitsOf_length (w v : Nat) : (bitsOf w v).length = w := by
  induction w with
  | zero => rfl
  | succ w ih => simp [bitsOf, ih]

/-- A number is its bit at w and its rest below. -/
theorem testBit_split (w v : Nat) : v % 2 ^ (w + 1) = (v.testBit w).toNat * 2 ^ w + v % 2 ^ w := by
  rw [Nat.pow_succ, Nat.mod_mul, Nat.testBit_eq_decide_div_mod_eq]
  have h : v / 2 ^ w % 2 < 2 := Nat.mod_lt _ (by decide)
  rcases Nat.lt_or_ge 0 (v / 2 ^ w % 2) with h1 | h1
  · have : v / 2 ^ w % 2 = 1 := by omega
    simp [this, Nat.add_comm]
  · have : v / 2 ^ w % 2 = 0 := by omega
    simp [this]

/-- Reading back `w` bits of a number gives the number modulo `2^w`. -/
theorem valOf_bitsOf (w v : Nat) : valOf (bitsOf w v) = v % 2 ^ w := by
  induction w with
  | zero => simp [bitsOf, valOf, Nat.mod_one]
  | succ w ih => rw [bitsOf, valOf, ih, bitsOf_length, ← testBit_split]

theorem valOf_lt (bs : Bits) : valOf bs < 2 ^ bs.length := by
  induction bs with
  | nil => decide
  | cons b bs ih =>
    have hp : (2 : Nat) ^ (bs.length + 1) = 2 * 2 ^ bs.length := by rw [Nat.pow_succ]; omega
    cases b <;> simp only [valOf, List.length_cons, hp, Bool.toNat_false, Bool.toNat_true] <;> omega

theorem testBit_add_mul_pow (b : Bool) {r w : Nat} (h : r < 2 ^ w) (j : Nat) (hj : j < w) :
    (b.toNat * 2 ^ w + r).testBit j = r.testBit j := by
  rw [Nat.mul_comm, Nat.testBit_two_pow_mul_add _ h]
  simp [hj]

theorem bitsOf_congr (w : Nat) {v v' : Nat} (h : ∀ j, j < w → v.testBit j = v'.testBit j) : bitsOf w v = bitsOf w v' := by
  induction w with
  | zero => rfl
  | succ w ih =>
    rw [bitsOf, bitsOf, h w (Nat.lt_succ_self w), ih (fun j hj => h j (Nat.lt_succ_of_lt hj))]

/-- Writing back what a string spells gives the string. -/
theorem bitsOf_valOf (bs : Bits) : bitsOf bs.length (valOf bs) = bs := by
  induction bs with
  | nil => rfl
  | cons b bs ih =>
    have hlt := valOf_lt bs
    rw [List.length_cons, bitsOf, valOf]
    congr 1
    · rw [Nat.mul_comm, Nat.testBit_two_pow_mul_add _ hlt]
      cases b <;> simp
    · rw [← ih]
      simp only [ih]
      conv => rhs; rw [← ih]
      exact bitsOf_congr _ (fun j hj => testBit_add_mul_pow b hlt j hj)

/-- Position p of a written number is bit w-1-p (spec/30_encoding.md R47). -/
theorem bitsOf_getElem? {w p : Nat} (v : Nat) (h : p < w) : (bitsOf w v)[p]? = some (v.testBit (w - 1 - p)) := by
  induction w generalizing p with
  | zero => omega
  | succ w ih =>
    cases p with
    | zero => simp [bitsOf]
    | succ p =>
      rw [bitsOf, List.getElem?_cons_succ, ih (by omega)]
      congr 2; omega

/-- Position p of a string is bit `length - 1 - p` of the number it spells. -/
theorem getElem?_eq_testBit_valOf (bs : Bits) {p : Nat} (h : p < bs.length) :
    bs[p]? = some ((valOf bs).testBit (bs.length - 1 - p)) := by
  rw [← bitsOf_getElem? _ h, bitsOf_valOf]

@[simp] theorem field_length (start len : Nat) (bs : Bits) : (field start len bs).length = min len (bs.length - start) := by
  simp [field]

end Sys2Proof
end

