-- ==== Sys2Proof/Laws/State.lean ====
section
/-! SUPPORT. The fields of each update of the state: one lemma for each field of each named operation, true by rfl, so that
no proof unfolds a record update. -/

namespace Sys2Proof.Machine

section emit
variable (s : State) (e : Event)

@[simp] theorem emit_base : (emit e s).base = s.base := rfl
@[simp] theorem emit_idx : (emit e s).idx = s.idx := rfl
@[simp] theorem emit_pid : (emit e s).pid = s.pid := rfl
@[simp] theorem emit_act : (emit e s).act = s.act := rfl
@[simp] theorem emit_rep : (emit e s).rep = s.rep := rfl
@[simp] theorem emit_frame : (emit e s).frame = s.frame := rfl
@[simp] theorem emit_pc : (emit e s).pc = s.pc := rfl
@[simp] theorem emit_errIdx : (emit e s).errIdx = s.errIdx := rfl
@[simp] theorem emit_errCtr : (emit e s).errCtr = s.errCtr := rfl
@[simp] theorem emit_errLen : (emit e s).errLen = s.errLen := rfl
@[simp] theorem emit_st : (emit e s).st = s.st := rfl
@[simp] theorem emit_excl : (emit e s).excl = s.excl := rfl
@[simp] theorem emit_result : (emit e s).result = s.result := rfl
@[simp] theorem emit_cause : (emit e s).cause = s.cause := rfl
@[simp] theorem emit_done : (emit e s).done = s.done := rfl
@[simp] theorem emit_lvl : (emit e s).lvl = s.lvl := rfl
@[simp] theorem emit_midSegment : (emit e s).midSegment = s.midSegment := rfl
@[simp] theorem emit_timer : (emit e s).timer = s.timer := rfl
@[simp] theorem emit_cfg : (emit e s).cfg = s.cfg := rfl
@[simp] theorem emit_radioEnterReq : (emit e s).radioEnterReq = s.radioEnterReq := rfl
@[simp] theorem emit_radioRestoreReq : (emit e s).radioRestoreReq = s.radioRestoreReq := rfl
@[simp] theorem emit_radioMode : (emit e s).radioMode = s.radioMode := rfl
@[simp] theorem emit_restoreHonoured : (emit e s).restoreHonoured = s.restoreHonoured := rfl
@[simp] theorem emit_inputs : (emit e s).inputs = s.inputs := rfl
@[simp] theorem emit_slot : (emit e s).slot = s.slot := rfl
@[simp] theorem emit_ret : (emit e s).ret = s.ret := rfl
@[simp] theorem emit_trace : (emit e s).trace = s.trace ++ [e] := rfl
@[simp] theorem emit_elapsed : (emit e s).elapsed = s.elapsed := rfl
@[simp] theorem emit_draws : (emit e s).draws = s.draws := rfl

end emit

section memWriteGpio
variable (s : State) (v : Bool)

@[simp] theorem memWriteGpio_base : (memWriteGpio v s).base = s.base := rfl
@[simp] theorem memWriteGpio_idx : (memWriteGpio v s).idx = s.idx := rfl
@[simp] theorem memWriteGpio_pid : (memWriteGpio v s).pid = s.pid := rfl
@[simp] theorem memWriteGpio_act : (memWriteGpio v s).act = s.act := rfl
@[simp] theorem memWriteGpio_rep : (memWriteGpio v s).rep = s.rep := rfl
@[simp] theorem memWriteGpio_frame : (memWriteGpio v s).frame = s.frame := rfl
@[simp] theorem memWriteGpio_pc : (memWriteGpio v s).pc = s.pc := rfl
@[simp] theorem memWriteGpio_errIdx : (memWriteGpio v s).errIdx = s.errIdx := rfl
@[simp] theorem memWriteGpio_errCtr : (memWriteGpio v s).errCtr = s.errCtr := rfl
@[simp] theorem memWriteGpio_errLen : (memWriteGpio v s).errLen = s.errLen := rfl
@[simp] theorem memWriteGpio_st : (memWriteGpio v s).st = s.st := rfl
@[simp] theorem memWriteGpio_excl : (memWriteGpio v s).excl = s.excl := rfl
@[simp] theorem memWriteGpio_result : (memWriteGpio v s).result = s.result := rfl
@[simp] theorem memWriteGpio_cause : (memWriteGpio v s).cause = s.cause := rfl
@[simp] theorem memWriteGpio_done : (memWriteGpio v s).done = s.done := rfl
@[simp] theorem memWriteGpio_lvl : (memWriteGpio v s).lvl = v := rfl
@[simp] theorem memWriteGpio_midSegment : (memWriteGpio v s).midSegment = s.midSegment := rfl
@[simp] theorem memWriteGpio_timer : (memWriteGpio v s).timer = s.timer := rfl
@[simp] theorem memWriteGpio_cfg : (memWriteGpio v s).cfg = s.cfg := rfl
@[simp] theorem memWriteGpio_radioEnterReq : (memWriteGpio v s).radioEnterReq = s.radioEnterReq := rfl
@[simp] theorem memWriteGpio_radioRestoreReq : (memWriteGpio v s).radioRestoreReq = s.radioRestoreReq := rfl
@[simp] theorem memWriteGpio_radioMode : (memWriteGpio v s).radioMode = s.radioMode := rfl
@[simp] theorem memWriteGpio_restoreHonoured : (memWriteGpio v s).restoreHonoured = s.restoreHonoured := rfl
@[simp] theorem memWriteGpio_inputs : (memWriteGpio v s).inputs = s.inputs := rfl
@[simp] theorem memWriteGpio_slot : (memWriteGpio v s).slot = s.slot := rfl
@[simp] theorem memWriteGpio_ret : (memWriteGpio v s).ret = s.ret := rfl
@[simp] theorem memWriteGpio_trace : (memWriteGpio v s).trace = s.trace ++ [if v then .high else .low] := rfl
@[simp] theorem memWriteGpio_elapsed : (memWriteGpio v s).elapsed = s.elapsed := rfl
@[simp] theorem memWriteGpio_draws : (memWriteGpio v s).draws = s.draws := rfl

end memWriteGpio

section startSleep
variable (s : State) (d : BitVec 32)

@[simp] theorem startSleep_base : (startSleep d s).base = s.base := rfl
@[simp] theorem startSleep_idx : (startSleep d s).idx = s.idx := rfl
@[simp] theorem startSleep_pid : (startSleep d s).pid = s.pid := rfl
@[simp] theorem startSleep_act : (startSleep d s).act = s.act := rfl
@[simp] theorem startSleep_rep : (startSleep d s).rep = s.rep := rfl
@[simp] theorem startSleep_frame : (startSleep d s).frame = s.frame := rfl
@[simp] theorem startSleep_pc : (startSleep d s).pc = s.pc := rfl
@[simp] theorem startSleep_errIdx : (startSleep d s).errIdx = s.errIdx := rfl
@[simp] theorem startSleep_errCtr : (startSleep d s).errCtr = s.errCtr := rfl
@[simp] theorem startSleep_errLen : (startSleep d s).errLen = s.errLen := rfl
@[simp] theorem startSleep_st : (startSleep d s).st = s.st := rfl
@[simp] theorem startSleep_excl : (startSleep d s).excl = s.excl := rfl
@[simp] theorem startSleep_result : (startSleep d s).result = s.result := rfl
@[simp] theorem startSleep_cause : (startSleep d s).cause = s.cause := rfl
@[simp] theorem startSleep_done : (startSleep d s).done = s.done := rfl
@[simp] theorem startSleep_lvl : (startSleep d s).lvl = s.lvl := rfl
@[simp] theorem startSleep_midSegment : (startSleep d s).midSegment = s.midSegment := rfl
@[simp] theorem startSleep_timer : (startSleep d s).timer = d.toNat * s.cfg.ticksPerUs := rfl
@[simp] theorem startSleep_cfg : (startSleep d s).cfg = s.cfg := rfl
@[simp] theorem startSleep_radioEnterReq : (startSleep d s).radioEnterReq = s.radioEnterReq := rfl
@[simp] theorem startSleep_radioRestoreReq : (startSleep d s).radioRestoreReq = s.radioRestoreReq := rfl
@[simp] theorem startSleep_radioMode : (startSleep d s).radioMode = s.radioMode := rfl
@[simp] theorem startSleep_restoreHonoured : (startSleep d s).restoreHonoured = s.restoreHonoured := rfl
@[simp] theorem startSleep_inputs : (startSleep d s).inputs = s.inputs := rfl
@[simp] theorem startSleep_slot : (startSleep d s).slot = s.slot := rfl
@[simp] theorem startSleep_ret : (startSleep d s).ret = s.ret := rfl
@[simp] theorem startSleep_trace : (startSleep d s).trace = s.trace ++ [.sleep d] := rfl
@[simp] theorem startSleep_elapsed : (startSleep d s).elapsed = s.elapsed := rfl
@[simp] theorem startSleep_draws : (startSleep d s).draws = s.draws := rfl

end startSleep

section completeSleep
variable (s : State) (d : BitVec 32)

@[simp] theorem completeSleep_base : (completeSleep d s).base = s.base := rfl
@[simp] theorem completeSleep_idx : (completeSleep d s).idx = s.idx := rfl
@[simp] theorem completeSleep_pid : (completeSleep d s).pid = s.pid := rfl
@[simp] theorem completeSleep_act : (completeSleep d s).act = s.act := rfl
@[simp] theorem completeSleep_rep : (completeSleep d s).rep = s.rep := rfl
@[simp] theorem completeSleep_frame : (completeSleep d s).frame = s.frame := rfl
@[simp] theorem completeSleep_pc : (completeSleep d s).pc = s.pc := rfl
@[simp] theorem completeSleep_errIdx : (completeSleep d s).errIdx = s.errIdx := rfl
@[simp] theorem completeSleep_errCtr : (completeSleep d s).errCtr = s.errCtr := rfl
@[simp] theorem completeSleep_errLen : (completeSleep d s).errLen = s.errLen := rfl
@[simp] theorem completeSleep_st : (completeSleep d s).st = s.st := rfl
@[simp] theorem completeSleep_excl : (completeSleep d s).excl = s.excl := rfl
@[simp] theorem completeSleep_result : (completeSleep d s).result = s.result := rfl
@[simp] theorem completeSleep_cause : (completeSleep d s).cause = s.cause := rfl
@[simp] theorem completeSleep_done : (completeSleep d s).done = s.done := rfl
@[simp] theorem completeSleep_lvl : (completeSleep d s).lvl = s.lvl := rfl
@[simp] theorem completeSleep_midSegment : (completeSleep d s).midSegment = s.midSegment := rfl
@[simp] theorem completeSleep_timer : (completeSleep d s).timer = 0 := rfl
@[simp] theorem completeSleep_cfg : (completeSleep d s).cfg = s.cfg := rfl
@[simp] theorem completeSleep_radioEnterReq : (completeSleep d s).radioEnterReq = s.radioEnterReq := rfl
@[simp] theorem completeSleep_radioRestoreReq : (completeSleep d s).radioRestoreReq = s.radioRestoreReq := rfl
@[simp] theorem completeSleep_radioMode : (completeSleep d s).radioMode = s.radioMode := rfl
@[simp] theorem completeSleep_restoreHonoured : (completeSleep d s).restoreHonoured = s.restoreHonoured := rfl
@[simp] theorem completeSleep_inputs : (completeSleep d s).inputs = s.inputs := rfl
@[simp] theorem completeSleep_slot : (completeSleep d s).slot = s.slot := rfl
@[simp] theorem completeSleep_ret : (completeSleep d s).ret = s.ret := rfl
@[simp] theorem completeSleep_trace : (completeSleep d s).trace = s.trace := rfl
@[simp] theorem completeSleep_elapsed : (completeSleep d s).elapsed = s.elapsed + d.toNat := rfl
@[simp] theorem completeSleep_draws : (completeSleep d s).draws = s.draws := rfl

end completeSleep

section sleepFor
variable (s : State) (d : BitVec 32)

@[simp] theorem sleepFor_base : (sleepFor d s).base = s.base := rfl
@[simp] theorem sleepFor_idx : (sleepFor d s).idx = s.idx := rfl
@[simp] theorem sleepFor_pid : (sleepFor d s).pid = s.pid := rfl
@[simp] theorem sleepFor_act : (sleepFor d s).act = s.act := rfl
@[simp] theorem sleepFor_rep : (sleepFor d s).rep = s.rep := rfl
@[simp] theorem sleepFor_frame : (sleepFor d s).frame = s.frame := rfl
@[simp] theorem sleepFor_pc : (sleepFor d s).pc = s.pc := rfl
@[simp] theorem sleepFor_errIdx : (sleepFor d s).errIdx = s.errIdx := rfl
@[simp] theorem sleepFor_errCtr : (sleepFor d s).errCtr = s.errCtr := rfl
@[simp] theorem sleepFor_errLen : (sleepFor d s).errLen = s.errLen := rfl
@[simp] theorem sleepFor_st : (sleepFor d s).st = s.st := rfl
@[simp] theorem sleepFor_excl : (sleepFor d s).excl = s.excl := rfl
@[simp] theorem sleepFor_result : (sleepFor d s).result = s.result := rfl
@[simp] theorem sleepFor_cause : (sleepFor d s).cause = s.cause := rfl
@[simp] theorem sleepFor_done : (sleepFor d s).done = s.done := rfl
@[simp] theorem sleepFor_lvl : (sleepFor d s).lvl = s.lvl := rfl
@[simp] theorem sleepFor_midSegment : (sleepFor d s).midSegment = s.midSegment := rfl
@[simp] theorem sleepFor_timer : (sleepFor d s).timer = 0 := rfl
@[simp] theorem sleepFor_cfg : (sleepFor d s).cfg = s.cfg := rfl
@[simp] theorem sleepFor_radioEnterReq : (sleepFor d s).radioEnterReq = s.radioEnterReq := rfl
@[simp] theorem sleepFor_radioRestoreReq : (sleepFor d s).radioRestoreReq = s.radioRestoreReq := rfl
@[simp] theorem sleepFor_radioMode : (sleepFor d s).radioMode = s.radioMode := rfl
@[simp] theorem sleepFor_restoreHonoured : (sleepFor d s).restoreHonoured = s.restoreHonoured := rfl
@[simp] theorem sleepFor_inputs : (sleepFor d s).inputs = s.inputs := rfl
@[simp] theorem sleepFor_slot : (sleepFor d s).slot = s.slot := rfl
@[simp] theorem sleepFor_ret : (sleepFor d s).ret = s.ret := rfl
@[simp] theorem sleepFor_trace : (sleepFor d s).trace = s.trace ++ [.sleep d] := rfl
@[simp] theorem sleepFor_elapsed : (sleepFor d s).elapsed = s.elapsed + d.toNat := rfl
@[simp] theorem sleepFor_draws : (sleepFor d s).draws = s.draws := rfl

end sleepFor

section advancePc
variable (s : State)

@[simp] theorem advancePc_base : (advancePc s).base = s.base := rfl
@[simp] theorem advancePc_idx : (advancePc s).idx = s.idx := rfl
@[simp] theorem advancePc_pid : (advancePc s).pid = s.pid := rfl
@[simp] theorem advancePc_act : (advancePc s).act = s.act := rfl
@[simp] theorem advancePc_rep : (advancePc s).rep = s.rep := rfl
@[simp] theorem advancePc_frame : (advancePc s).frame = s.frame := rfl
@[simp] theorem advancePc_pc : (advancePc s).pc = s.pc + 1 := rfl
@[simp] theorem advancePc_errIdx : (advancePc s).errIdx = s.errIdx := rfl
@[simp] theorem advancePc_errCtr : (advancePc s).errCtr = s.errCtr := rfl
@[simp] theorem advancePc_errLen : (advancePc s).errLen = s.errLen := rfl
@[simp] theorem advancePc_st : (advancePc s).st = s.st := rfl
@[simp] theorem advancePc_excl : (advancePc s).excl = s.excl := rfl
@[simp] theorem advancePc_result : (advancePc s).result = s.result := rfl
@[simp] theorem advancePc_cause : (advancePc s).cause = s.cause := rfl
@[simp] theorem advancePc_done : (advancePc s).done = s.done := rfl
@[simp] theorem advancePc_lvl : (advancePc s).lvl = s.lvl := rfl
@[simp] theorem advancePc_midSegment : (advancePc s).midSegment = s.midSegment := rfl
@[simp] theorem advancePc_timer : (advancePc s).timer = s.timer := rfl
@[simp] theorem advancePc_cfg : (advancePc s).cfg = s.cfg := rfl
@[simp] theorem advancePc_radioEnterReq : (advancePc s).radioEnterReq = s.radioEnterReq := rfl
@[simp] theorem advancePc_radioRestoreReq : (advancePc s).radioRestoreReq = s.radioRestoreReq := rfl
@[simp] theorem advancePc_radioMode : (advancePc s).radioMode = s.radioMode := rfl
@[simp] theorem advancePc_restoreHonoured : (advancePc s).restoreHonoured = s.restoreHonoured := rfl
@[simp] theorem advancePc_inputs : (advancePc s).inputs = s.inputs := rfl
@[simp] theorem advancePc_slot : (advancePc s).slot = s.slot := rfl
@[simp] theorem advancePc_ret : (advancePc s).ret = s.ret := rfl
@[simp] theorem advancePc_trace : (advancePc s).trace = s.trace := rfl
@[simp] theorem advancePc_elapsed : (advancePc s).elapsed = s.elapsed := rfl
@[simp] theorem advancePc_draws : (advancePc s).draws = s.draws := rfl

end advancePc

section returnValue
variable (s : State) (r : Returned)

@[simp] theorem returnValue_base : (returnValue r s).base = s.base := rfl
@[simp] theorem returnValue_idx : (returnValue r s).idx = s.idx := rfl
@[simp] theorem returnValue_pid : (returnValue r s).pid = s.pid := rfl
@[simp] theorem returnValue_act : (returnValue r s).act = s.act := rfl
@[simp] theorem returnValue_rep : (returnValue r s).rep = s.rep := rfl
@[simp] theorem returnValue_frame : (returnValue r s).frame = s.frame := rfl
@[simp] theorem returnValue_pc : (returnValue r s).pc = s.pc := rfl
@[simp] theorem returnValue_errIdx : (returnValue r s).errIdx = s.errIdx := rfl
@[simp] theorem returnValue_errCtr : (returnValue r s).errCtr = s.errCtr := rfl
@[simp] theorem returnValue_errLen : (returnValue r s).errLen = s.errLen := rfl
@[simp] theorem returnValue_st : (returnValue r s).st = s.st := rfl
@[simp] theorem returnValue_excl : (returnValue r s).excl = s.excl := rfl
@[simp] theorem returnValue_result : (returnValue r s).result = s.result := rfl
@[simp] theorem returnValue_cause : (returnValue r s).cause = s.cause := rfl
@[simp] theorem returnValue_done : (returnValue r s).done = s.done := rfl
@[simp] theorem returnValue_lvl : (returnValue r s).lvl = s.lvl := rfl
@[simp] theorem returnValue_midSegment : (returnValue r s).midSegment = s.midSegment := rfl
@[simp] theorem returnValue_timer : (returnValue r s).timer = s.timer := rfl
@[simp] theorem returnValue_cfg : (returnValue r s).cfg = s.cfg := rfl
@[simp] theorem returnValue_radioEnterReq : (returnValue r s).radioEnterReq = s.radioEnterReq := rfl
@[simp] theorem returnValue_radioRestoreReq : (returnValue r s).radioRestoreReq = s.radioRestoreReq := rfl
@[simp] theorem returnValue_radioMode : (returnValue r s).radioMode = s.radioMode := rfl
@[simp] theorem returnValue_restoreHonoured : (returnValue r s).restoreHonoured = s.restoreHonoured := rfl
@[simp] theorem returnValue_inputs : (returnValue r s).inputs = s.inputs := rfl
@[simp] theorem returnValue_slot : (returnValue r s).slot = s.slot := rfl
@[simp] theorem returnValue_ret : (returnValue r s).ret = r := rfl
@[simp] theorem returnValue_trace : (returnValue r s).trace = s.trace := rfl
@[simp] theorem returnValue_elapsed : (returnValue r s).elapsed = s.elapsed := rfl
@[simp] theorem returnValue_draws : (returnValue r s).draws = s.draws := rfl

end returnValue

section writeFlags
variable (s : State) (c : BuildChecks)

@[simp] theorem writeFlags_base : (writeFlags c s).base = s.base := rfl
@[simp] theorem writeFlags_idx : (writeFlags c s).idx = s.idx := rfl
@[simp] theorem writeFlags_pid : (writeFlags c s).pid = s.pid := rfl
@[simp] theorem writeFlags_act : (writeFlags c s).act = s.act := rfl
@[simp] theorem writeFlags_rep : (writeFlags c s).rep = s.rep := rfl
@[simp] theorem writeFlags_frame : (writeFlags c s).frame = s.frame := rfl
@[simp] theorem writeFlags_pc : (writeFlags c s).pc = s.pc := rfl
@[simp] theorem writeFlags_errIdx : (writeFlags c s).errIdx = c.eIdx := rfl
@[simp] theorem writeFlags_errCtr : (writeFlags c s).errCtr = c.eCtr := rfl
@[simp] theorem writeFlags_errLen : (writeFlags c s).errLen = c.eLen := rfl
@[simp] theorem writeFlags_st : (writeFlags c s).st = s.st := rfl
@[simp] theorem writeFlags_excl : (writeFlags c s).excl = s.excl := rfl
@[simp] theorem writeFlags_result : (writeFlags c s).result = s.result := rfl
@[simp] theorem writeFlags_cause : (writeFlags c s).cause = s.cause := rfl
@[simp] theorem writeFlags_done : (writeFlags c s).done = s.done := rfl
@[simp] theorem writeFlags_lvl : (writeFlags c s).lvl = s.lvl := rfl
@[simp] theorem writeFlags_midSegment : (writeFlags c s).midSegment = s.midSegment := rfl
@[simp] theorem writeFlags_timer : (writeFlags c s).timer = s.timer := rfl
@[simp] theorem writeFlags_cfg : (writeFlags c s).cfg = s.cfg := rfl
@[simp] theorem writeFlags_radioEnterReq : (writeFlags c s).radioEnterReq = s.radioEnterReq := rfl
@[simp] theorem writeFlags_radioRestoreReq : (writeFlags c s).radioRestoreReq = s.radioRestoreReq := rfl
@[simp] theorem writeFlags_radioMode : (writeFlags c s).radioMode = s.radioMode := rfl
@[simp] theorem writeFlags_restoreHonoured : (writeFlags c s).restoreHonoured = s.restoreHonoured := rfl
@[simp] theorem writeFlags_inputs : (writeFlags c s).inputs = s.inputs := rfl
@[simp] theorem writeFlags_slot : (writeFlags c s).slot = s.slot := rfl
@[simp] theorem writeFlags_ret : (writeFlags c s).ret = s.ret := rfl
@[simp] theorem writeFlags_trace : (writeFlags c s).trace = s.trace := rfl
@[simp] theorem writeFlags_elapsed : (writeFlags c s).elapsed = s.elapsed := rfl
@[simp] theorem writeFlags_draws : (writeFlags c s).draws = s.draws := rfl

end writeFlags

section issueEnter
variable (s : State)

@[simp] theorem issueEnter_base : (issueEnter s).base = s.base := rfl
@[simp] theorem issueEnter_idx : (issueEnter s).idx = s.idx := rfl
@[simp] theorem issueEnter_pid : (issueEnter s).pid = s.pid := rfl
@[simp] theorem issueEnter_act : (issueEnter s).act = s.act := rfl
@[simp] theorem issueEnter_rep : (issueEnter s).rep = s.rep := rfl
@[simp] theorem issueEnter_frame : (issueEnter s).frame = s.frame := rfl
@[simp] theorem issueEnter_pc : (issueEnter s).pc = s.pc := rfl
@[simp] theorem issueEnter_errIdx : (issueEnter s).errIdx = s.errIdx := rfl
@[simp] theorem issueEnter_errCtr : (issueEnter s).errCtr = s.errCtr := rfl
@[simp] theorem issueEnter_errLen : (issueEnter s).errLen = s.errLen := rfl
@[simp] theorem issueEnter_st : (issueEnter s).st = .armed := rfl
@[simp] theorem issueEnter_excl : (issueEnter s).excl = s.excl := rfl
@[simp] theorem issueEnter_result : (issueEnter s).result = s.result := rfl
@[simp] theorem issueEnter_cause : (issueEnter s).cause = s.cause := rfl
@[simp] theorem issueEnter_done : (issueEnter s).done = s.done := rfl
@[simp] theorem issueEnter_lvl : (issueEnter s).lvl = s.lvl := rfl
@[simp] theorem issueEnter_midSegment : (issueEnter s).midSegment = s.midSegment := rfl
@[simp] theorem issueEnter_timer : (issueEnter s).timer = s.timer := rfl
@[simp] theorem issueEnter_cfg : (issueEnter s).cfg = s.cfg := rfl
@[simp] theorem issueEnter_radioEnterReq : (issueEnter s).radioEnterReq = true := rfl
@[simp] theorem issueEnter_radioRestoreReq : (issueEnter s).radioRestoreReq = s.radioRestoreReq := rfl
@[simp] theorem issueEnter_radioMode : (issueEnter s).radioMode = s.radioMode := rfl
@[simp] theorem issueEnter_restoreHonoured : (issueEnter s).restoreHonoured = s.restoreHonoured := rfl
@[simp] theorem issueEnter_inputs : (issueEnter s).inputs = s.inputs := rfl
@[simp] theorem issueEnter_slot : (issueEnter s).slot = s.slot := rfl
@[simp] theorem issueEnter_ret : (issueEnter s).ret = s.ret := rfl
@[simp] theorem issueEnter_trace : (issueEnter s).trace = s.trace ++ [.enter] := rfl
@[simp] theorem issueEnter_elapsed : (issueEnter s).elapsed = s.elapsed := rfl
@[simp] theorem issueEnter_draws : (issueEnter s).draws = s.draws := rfl

end issueEnter

section enterCritical
variable (s : State)

@[simp] theorem enterCritical_base : (enterCritical s).base = s.base := rfl
@[simp] theorem enterCritical_idx : (enterCritical s).idx = s.idx := rfl
@[simp] theorem enterCritical_pid : (enterCritical s).pid = s.pid := rfl
@[simp] theorem enterCritical_act : (enterCritical s).act = s.act := rfl
@[simp] theorem enterCritical_rep : (enterCritical s).rep = s.rep := rfl
@[simp] theorem enterCritical_frame : (enterCritical s).frame = s.frame := rfl
@[simp] theorem enterCritical_pc : (enterCritical s).pc = 0 := rfl
@[simp] theorem enterCritical_errIdx : (enterCritical s).errIdx = s.errIdx := rfl
@[simp] theorem enterCritical_errCtr : (enterCritical s).errCtr = s.errCtr := rfl
@[simp] theorem enterCritical_errLen : (enterCritical s).errLen = s.errLen := rfl
@[simp] theorem enterCritical_st : (enterCritical s).st = .criticalSection := rfl
@[simp] theorem enterCritical_excl : (enterCritical s).excl = true := rfl
@[simp] theorem enterCritical_result : (enterCritical s).result = s.result := rfl
@[simp] theorem enterCritical_cause : (enterCritical s).cause = s.cause := rfl
@[simp] theorem enterCritical_done : (enterCritical s).done = s.done := rfl
@[simp] theorem enterCritical_lvl : (enterCritical s).lvl = s.lvl := rfl
@[simp] theorem enterCritical_midSegment : (enterCritical s).midSegment = false := rfl
@[simp] theorem enterCritical_timer : (enterCritical s).timer = s.timer := rfl
@[simp] theorem enterCritical_cfg : (enterCritical s).cfg = s.cfg := rfl
@[simp] theorem enterCritical_radioEnterReq : (enterCritical s).radioEnterReq = s.radioEnterReq := rfl
@[simp] theorem enterCritical_radioRestoreReq : (enterCritical s).radioRestoreReq = s.radioRestoreReq := rfl
@[simp] theorem enterCritical_radioMode : (enterCritical s).radioMode = s.radioMode := rfl
@[simp] theorem enterCritical_restoreHonoured : (enterCritical s).restoreHonoured = s.restoreHonoured := rfl
@[simp] theorem enterCritical_inputs : (enterCritical s).inputs = s.inputs := rfl
@[simp] theorem enterCritical_slot : (enterCritical s).slot = s.slot := rfl
@[simp] theorem enterCritical_ret : (enterCritical s).ret = s.ret := rfl
@[simp] theorem enterCritical_trace : (enterCritical s).trace = s.trace ++ [.exclOn] := rfl
@[simp] theorem enterCritical_elapsed : (enterCritical s).elapsed = s.elapsed := rfl
@[simp] theorem enterCritical_draws : (enterCritical s).draws = s.draws := rfl

end enterCritical

section leaveCritical
variable (s : State)

@[simp] theorem leaveCritical_base : (leaveCritical s).base = s.base := rfl
@[simp] theorem leaveCritical_idx : (leaveCritical s).idx = s.idx := rfl
@[simp] theorem leaveCritical_pid : (leaveCritical s).pid = s.pid := rfl
@[simp] theorem leaveCritical_act : (leaveCritical s).act = s.act := rfl
@[simp] theorem leaveCritical_rep : (leaveCritical s).rep = s.rep := rfl
@[simp] theorem leaveCritical_frame : (leaveCritical s).frame = s.frame := rfl
@[simp] theorem leaveCritical_pc : (leaveCritical s).pc = s.pc := rfl
@[simp] theorem leaveCritical_errIdx : (leaveCritical s).errIdx = s.errIdx := rfl
@[simp] theorem leaveCritical_errCtr : (leaveCritical s).errCtr = s.errCtr := rfl
@[simp] theorem leaveCritical_errLen : (leaveCritical s).errLen = s.errLen := rfl
@[simp] theorem leaveCritical_st : (leaveCritical s).st = .exitMode := rfl
@[simp] theorem leaveCritical_excl : (leaveCritical s).excl = false := rfl
@[simp] theorem leaveCritical_result : (leaveCritical s).result = s.result := rfl
@[simp] theorem leaveCritical_cause : (leaveCritical s).cause = s.cause := rfl
@[simp] theorem leaveCritical_done : (leaveCritical s).done = s.done := rfl
@[simp] theorem leaveCritical_lvl : (leaveCritical s).lvl = s.lvl := rfl
@[simp] theorem leaveCritical_midSegment : (leaveCritical s).midSegment = s.midSegment := rfl
@[simp] theorem leaveCritical_timer : (leaveCritical s).timer = s.timer := rfl
@[simp] theorem leaveCritical_cfg : (leaveCritical s).cfg = s.cfg := rfl
@[simp] theorem leaveCritical_radioEnterReq : (leaveCritical s).radioEnterReq = s.radioEnterReq := rfl
@[simp] theorem leaveCritical_radioRestoreReq : (leaveCritical s).radioRestoreReq = s.radioRestoreReq := rfl
@[simp] theorem leaveCritical_radioMode : (leaveCritical s).radioMode = s.radioMode := rfl
@[simp] theorem leaveCritical_restoreHonoured : (leaveCritical s).restoreHonoured = s.restoreHonoured := rfl
@[simp] theorem leaveCritical_inputs : (leaveCritical s).inputs = s.inputs := rfl
@[simp] theorem leaveCritical_slot : (leaveCritical s).slot = s.slot := rfl
@[simp] theorem leaveCritical_ret : (leaveCritical s).ret = s.ret := rfl
@[simp] theorem leaveCritical_trace : (leaveCritical s).trace = s.trace ++ [.exclOff] := rfl
@[simp] theorem leaveCritical_elapsed : (leaveCritical s).elapsed = s.elapsed := rfl
@[simp] theorem leaveCritical_draws : (leaveCritical s).draws = s.draws := rfl

end leaveCritical

section answerOk
variable (s : State)

@[simp] theorem answerOk_base : (answerOk s).base = s.base := rfl
@[simp] theorem answerOk_idx : (answerOk s).idx = s.idx := rfl
@[simp] theorem answerOk_pid : (answerOk s).pid = s.pid := rfl
@[simp] theorem answerOk_act : (answerOk s).act = s.act := rfl
@[simp] theorem answerOk_rep : (answerOk s).rep = s.rep := rfl
@[simp] theorem answerOk_frame : (answerOk s).frame = s.frame := rfl
@[simp] theorem answerOk_pc : (answerOk s).pc = s.pc := rfl
@[simp] theorem answerOk_errIdx : (answerOk s).errIdx = s.errIdx := rfl
@[simp] theorem answerOk_errCtr : (answerOk s).errCtr = s.errCtr := rfl
@[simp] theorem answerOk_errLen : (answerOk s).errLen = s.errLen := rfl
@[simp] theorem answerOk_st : (answerOk s).st = s.st := rfl
@[simp] theorem answerOk_excl : (answerOk s).excl = s.excl := rfl
@[simp] theorem answerOk_result : (answerOk s).result = s.result := rfl
@[simp] theorem answerOk_cause : (answerOk s).cause = s.cause := rfl
@[simp] theorem answerOk_done : (answerOk s).done = s.done := rfl
@[simp] theorem answerOk_lvl : (answerOk s).lvl = s.lvl := rfl
@[simp] theorem answerOk_midSegment : (answerOk s).midSegment = s.midSegment := rfl
@[simp] theorem answerOk_timer : (answerOk s).timer = s.timer := rfl
@[simp] theorem answerOk_cfg : (answerOk s).cfg = s.cfg := rfl
@[simp] theorem answerOk_radioEnterReq : (answerOk s).radioEnterReq = s.radioEnterReq := rfl
@[simp] theorem answerOk_radioRestoreReq : (answerOk s).radioRestoreReq = s.radioRestoreReq := rfl
@[simp] theorem answerOk_radioMode : (answerOk s).radioMode = .direct := rfl
@[simp] theorem answerOk_restoreHonoured : (answerOk s).restoreHonoured = s.restoreHonoured := rfl
@[simp] theorem answerOk_inputs : (answerOk s).inputs = s.inputs := rfl
@[simp] theorem answerOk_slot : (answerOk s).slot = s.slot := rfl
@[simp] theorem answerOk_ret : (answerOk s).ret = s.ret := rfl
@[simp] theorem answerOk_trace : (answerOk s).trace = s.trace := rfl
@[simp] theorem answerOk_elapsed : (answerOk s).elapsed = s.elapsed := rfl
@[simp] theorem answerOk_draws : (answerOk s).draws = s.draws := rfl

end answerOk

section answerFail
variable (s : State)

@[simp] theorem answerFail_base : (answerFail s).base = s.base := rfl
@[simp] theorem answerFail_idx : (answerFail s).idx = s.idx := rfl
@[simp] theorem answerFail_pid : (answerFail s).pid = s.pid := rfl
@[simp] theorem answerFail_act : (answerFail s).act = s.act := rfl
@[simp] theorem answerFail_rep : (answerFail s).rep = s.rep := rfl
@[simp] theorem answerFail_frame : (answerFail s).frame = s.frame := rfl
@[simp] theorem answerFail_pc : (answerFail s).pc = s.pc := rfl
@[simp] theorem answerFail_errIdx : (answerFail s).errIdx = s.errIdx := rfl
@[simp] theorem answerFail_errCtr : (answerFail s).errCtr = s.errCtr := rfl
@[simp] theorem answerFail_errLen : (answerFail s).errLen = s.errLen := rfl
@[simp] theorem answerFail_st : (answerFail s).st = s.st := rfl
@[simp] theorem answerFail_excl : (answerFail s).excl = s.excl := rfl
@[simp] theorem answerFail_result : (answerFail s).result = s.result := rfl
@[simp] theorem answerFail_cause : (answerFail s).cause = s.cause := rfl
@[simp] theorem answerFail_done : (answerFail s).done = s.done := rfl
@[simp] theorem answerFail_lvl : (answerFail s).lvl = s.lvl := rfl
@[simp] theorem answerFail_midSegment : (answerFail s).midSegment = s.midSegment := rfl
@[simp] theorem answerFail_timer : (answerFail s).timer = s.timer := rfl
@[simp] theorem answerFail_cfg : (answerFail s).cfg = s.cfg := rfl
@[simp] theorem answerFail_radioEnterReq : (answerFail s).radioEnterReq = s.radioEnterReq := rfl
@[simp] theorem answerFail_radioRestoreReq : (answerFail s).radioRestoreReq = s.radioRestoreReq := rfl
@[simp] theorem answerFail_radioMode : (answerFail s).radioMode = Config.radioModeAfterFail s.draws := rfl
@[simp] theorem answerFail_restoreHonoured : (answerFail s).restoreHonoured = s.restoreHonoured := rfl
@[simp] theorem answerFail_inputs : (answerFail s).inputs = s.inputs := rfl
@[simp] theorem answerFail_slot : (answerFail s).slot = s.slot := rfl
@[simp] theorem answerFail_ret : (answerFail s).ret = s.ret := rfl
@[simp] theorem answerFail_trace : (answerFail s).trace = s.trace := rfl
@[simp] theorem answerFail_elapsed : (answerFail s).elapsed = s.elapsed := rfl
@[simp] theorem answerFail_draws : (answerFail s).draws = s.draws + 1 := rfl

end answerFail

section raiseError
variable (s : State) (r : ResultCode) (c : Cause)

@[simp] theorem raiseError_base : (raiseError r c s).base = s.base := rfl
@[simp] theorem raiseError_idx : (raiseError r c s).idx = s.idx := rfl
@[simp] theorem raiseError_pid : (raiseError r c s).pid = s.pid := rfl
@[simp] theorem raiseError_act : (raiseError r c s).act = s.act := rfl
@[simp] theorem raiseError_rep : (raiseError r c s).rep = s.rep := rfl
@[simp] theorem raiseError_frame : (raiseError r c s).frame = s.frame := rfl
@[simp] theorem raiseError_pc : (raiseError r c s).pc = s.pc := rfl
@[simp] theorem raiseError_errIdx : (raiseError r c s).errIdx = s.errIdx := rfl
@[simp] theorem raiseError_errCtr : (raiseError r c s).errCtr = s.errCtr := rfl
@[simp] theorem raiseError_errLen : (raiseError r c s).errLen = s.errLen := rfl
@[simp] theorem raiseError_st : (raiseError r c s).st = .failed := rfl
@[simp] theorem raiseError_excl : (raiseError r c s).excl = s.excl := rfl
@[simp] theorem raiseError_result : (raiseError r c s).result = r := rfl
@[simp] theorem raiseError_cause : (raiseError r c s).cause = c := rfl
@[simp] theorem raiseError_done : (raiseError r c s).done = s.done := rfl
@[simp] theorem raiseError_lvl : (raiseError r c s).lvl = s.lvl := rfl
@[simp] theorem raiseError_midSegment : (raiseError r c s).midSegment = s.midSegment := rfl
@[simp] theorem raiseError_timer : (raiseError r c s).timer = s.timer := rfl
@[simp] theorem raiseError_cfg : (raiseError r c s).cfg = s.cfg := rfl
@[simp] theorem raiseError_radioEnterReq : (raiseError r c s).radioEnterReq = s.radioEnterReq := rfl
@[simp] theorem raiseError_radioRestoreReq : (raiseError r c s).radioRestoreReq = s.radioRestoreReq := rfl
@[simp] theorem raiseError_radioMode : (raiseError r c s).radioMode = s.radioMode := rfl
@[simp] theorem raiseError_restoreHonoured : (raiseError r c s).restoreHonoured = s.restoreHonoured := rfl
@[simp] theorem raiseError_inputs : (raiseError r c s).inputs = s.inputs := rfl
@[simp] theorem raiseError_slot : (raiseError r c s).slot = s.slot := rfl
@[simp] theorem raiseError_ret : (raiseError r c s).ret = s.ret := rfl
@[simp] theorem raiseError_trace : (raiseError r c s).trace = s.trace := rfl
@[simp] theorem raiseError_elapsed : (raiseError r c s).elapsed = s.elapsed := rfl
@[simp] theorem raiseError_draws : (raiseError r c s).draws = s.draws := rfl

end raiseError

section finishFailed
variable (s : State)

@[simp] theorem finishFailed_base : (finishFailed s).base = s.base := rfl
@[simp] theorem finishFailed_idx : (finishFailed s).idx = s.idx := rfl
@[simp] theorem finishFailed_pid : (finishFailed s).pid = s.pid := rfl
@[simp] theorem finishFailed_act : (finishFailed s).act = s.act := rfl
@[simp] theorem finishFailed_rep : (finishFailed s).rep = s.rep := rfl
@[simp] theorem finishFailed_frame : (finishFailed s).frame = s.frame := rfl
@[simp] theorem finishFailed_pc : (finishFailed s).pc = s.pc := rfl
@[simp] theorem finishFailed_errIdx : (finishFailed s).errIdx = s.errIdx := rfl
@[simp] theorem finishFailed_errCtr : (finishFailed s).errCtr = s.errCtr := rfl
@[simp] theorem finishFailed_errLen : (finishFailed s).errLen = s.errLen := rfl
@[simp] theorem finishFailed_st : (finishFailed s).st = .idle := rfl
@[simp] theorem finishFailed_excl : (finishFailed s).excl = s.excl := rfl
@[simp] theorem finishFailed_result : (finishFailed s).result = s.result := rfl
@[simp] theorem finishFailed_cause : (finishFailed s).cause = s.cause := rfl
@[simp] theorem finishFailed_done : (finishFailed s).done = true := rfl
@[simp] theorem finishFailed_lvl : (finishFailed s).lvl = s.lvl := rfl
@[simp] theorem finishFailed_midSegment : (finishFailed s).midSegment = s.midSegment := rfl
@[simp] theorem finishFailed_timer : (finishFailed s).timer = s.timer := rfl
@[simp] theorem finishFailed_cfg : (finishFailed s).cfg = s.cfg := rfl
@[simp] theorem finishFailed_radioEnterReq : (finishFailed s).radioEnterReq = s.radioEnterReq := rfl
@[simp] theorem finishFailed_radioRestoreReq : (finishFailed s).radioRestoreReq = s.radioRestoreReq := rfl
@[simp] theorem finishFailed_radioMode : (finishFailed s).radioMode = s.radioMode := rfl
@[simp] theorem finishFailed_restoreHonoured : (finishFailed s).restoreHonoured = s.restoreHonoured := rfl
@[simp] theorem finishFailed_inputs : (finishFailed s).inputs = s.inputs := rfl
@[simp] theorem finishFailed_slot : (finishFailed s).slot = s.slot := rfl
@[simp] theorem finishFailed_ret : (finishFailed s).ret = s.ret := rfl
@[simp] theorem finishFailed_trace : (finishFailed s).trace = s.trace := rfl
@[simp] theorem finishFailed_elapsed : (finishFailed s).elapsed = s.elapsed := rfl
@[simp] theorem finishFailed_draws : (finishFailed s).draws = s.draws := rfl

end finishFailed

section latchOperands
variable (s : State) (c : Cmd)

@[simp] theorem latchOperands_base : (latchOperands c s).base = c.base := rfl
@[simp] theorem latchOperands_idx : (latchOperands c s).idx = c.idx := rfl
@[simp] theorem latchOperands_pid : (latchOperands c s).pid = c.pid := rfl
@[simp] theorem latchOperands_act : (latchOperands c s).act = c.act := rfl
@[simp] theorem latchOperands_rep : (latchOperands c s).rep = c.rep := rfl
@[simp] theorem latchOperands_frame : (latchOperands c s).frame = s.frame := rfl
@[simp] theorem latchOperands_pc : (latchOperands c s).pc = s.pc := rfl
@[simp] theorem latchOperands_errIdx : (latchOperands c s).errIdx = s.errIdx := rfl
@[simp] theorem latchOperands_errCtr : (latchOperands c s).errCtr = s.errCtr := rfl
@[simp] theorem latchOperands_errLen : (latchOperands c s).errLen = s.errLen := rfl
@[simp] theorem latchOperands_st : (latchOperands c s).st = s.st := rfl
@[simp] theorem latchOperands_excl : (latchOperands c s).excl = s.excl := rfl
@[simp] theorem latchOperands_result : (latchOperands c s).result = s.result := rfl
@[simp] theorem latchOperands_cause : (latchOperands c s).cause = s.cause := rfl
@[simp] theorem latchOperands_done : (latchOperands c s).done = false := rfl
@[simp] theorem latchOperands_lvl : (latchOperands c s).lvl = s.lvl := rfl
@[simp] theorem latchOperands_midSegment : (latchOperands c s).midSegment = s.midSegment := rfl
@[simp] theorem latchOperands_timer : (latchOperands c s).timer = s.timer := rfl
@[simp] theorem latchOperands_cfg : (latchOperands c s).cfg = s.cfg := rfl
@[simp] theorem latchOperands_radioEnterReq : (latchOperands c s).radioEnterReq = s.radioEnterReq := rfl
@[simp] theorem latchOperands_radioRestoreReq : (latchOperands c s).radioRestoreReq = s.radioRestoreReq := rfl
@[simp] theorem latchOperands_radioMode : (latchOperands c s).radioMode = s.radioMode := rfl
@[simp] theorem latchOperands_restoreHonoured : (latchOperands c s).restoreHonoured = s.restoreHonoured := rfl
@[simp] theorem latchOperands_inputs : (latchOperands c s).inputs = s.inputs := rfl
@[simp] theorem latchOperands_slot : (latchOperands c s).slot = s.slot := rfl
@[simp] theorem latchOperands_ret : (latchOperands c s).ret = s.ret := rfl
@[simp] theorem latchOperands_trace : (latchOperands c s).trace = s.trace := rfl
@[simp] theorem latchOperands_elapsed : (latchOperands c s).elapsed = s.elapsed := rfl
@[simp] theorem latchOperands_draws : (latchOperands c s).draws = s.draws := rfl

end latchOperands

section warmReset
variable (s : State)

@[simp] theorem warmReset_base : (warmReset s).base = State.reset.base := rfl
@[simp] theorem warmReset_idx : (warmReset s).idx = State.reset.idx := rfl
@[simp] theorem warmReset_pid : (warmReset s).pid = State.reset.pid := rfl
@[simp] theorem warmReset_act : (warmReset s).act = State.reset.act := rfl
@[simp] theorem warmReset_rep : (warmReset s).rep = State.reset.rep := rfl
@[simp] theorem warmReset_frame : (warmReset s).frame = State.reset.frame := rfl
@[simp] theorem warmReset_pc : (warmReset s).pc = State.reset.pc := rfl
@[simp] theorem warmReset_errIdx : (warmReset s).errIdx = State.reset.errIdx := rfl
@[simp] theorem warmReset_errCtr : (warmReset s).errCtr = State.reset.errCtr := rfl
@[simp] theorem warmReset_errLen : (warmReset s).errLen = State.reset.errLen := rfl
@[simp] theorem warmReset_st : (warmReset s).st = State.reset.st := rfl
@[simp] theorem warmReset_excl : (warmReset s).excl = State.reset.excl := rfl
@[simp] theorem warmReset_result : (warmReset s).result = State.reset.result := rfl
@[simp] theorem warmReset_cause : (warmReset s).cause = State.reset.cause := rfl
@[simp] theorem warmReset_done : (warmReset s).done = State.reset.done := rfl
@[simp] theorem warmReset_lvl : (warmReset s).lvl = State.reset.lvl := rfl
@[simp] theorem warmReset_midSegment : (warmReset s).midSegment = State.reset.midSegment := rfl
@[simp] theorem warmReset_timer : (warmReset s).timer = State.reset.timer := rfl
@[simp] theorem warmReset_cfg : (warmReset s).cfg = s.cfg := rfl
@[simp] theorem warmReset_radioEnterReq : (warmReset s).radioEnterReq = State.reset.radioEnterReq := rfl
@[simp] theorem warmReset_radioRestoreReq : (warmReset s).radioRestoreReq = State.reset.radioRestoreReq := rfl
@[simp] theorem warmReset_radioMode : (warmReset s).radioMode = s.radioMode := rfl
@[simp] theorem warmReset_restoreHonoured : (warmReset s).restoreHonoured = s.restoreHonoured := rfl
@[simp] theorem warmReset_inputs : (warmReset s).inputs = s.inputs := rfl
@[simp] theorem warmReset_slot : (warmReset s).slot = s.slot := rfl
@[simp] theorem warmReset_ret : (warmReset s).ret = s.ret := rfl
@[simp] theorem warmReset_trace : (warmReset s).trace = s.trace := rfl
@[simp] theorem warmReset_elapsed : (warmReset s).elapsed = s.elapsed := rfl
@[simp] theorem warmReset_draws : (warmReset s).draws = s.draws := rfl

end warmReset

section dropSample
variable (s : State)

@[simp] theorem dropSample_base : (dropSample s).base = s.base := rfl
@[simp] theorem dropSample_idx : (dropSample s).idx = s.idx := rfl
@[simp] theorem dropSample_pid : (dropSample s).pid = s.pid := rfl
@[simp] theorem dropSample_act : (dropSample s).act = s.act := rfl
@[simp] theorem dropSample_rep : (dropSample s).rep = s.rep := rfl
@[simp] theorem dropSample_frame : (dropSample s).frame = s.frame := rfl
@[simp] theorem dropSample_pc : (dropSample s).pc = s.pc := rfl
@[simp] theorem dropSample_errIdx : (dropSample s).errIdx = s.errIdx := rfl
@[simp] theorem dropSample_errCtr : (dropSample s).errCtr = s.errCtr := rfl
@[simp] theorem dropSample_errLen : (dropSample s).errLen = s.errLen := rfl
@[simp] theorem dropSample_st : (dropSample s).st = s.st := rfl
@[simp] theorem dropSample_excl : (dropSample s).excl = s.excl := rfl
@[simp] theorem dropSample_result : (dropSample s).result = s.result := rfl
@[simp] theorem dropSample_cause : (dropSample s).cause = s.cause := rfl
@[simp] theorem dropSample_done : (dropSample s).done = s.done := rfl
@[simp] theorem dropSample_lvl : (dropSample s).lvl = s.lvl := rfl
@[simp] theorem dropSample_midSegment : (dropSample s).midSegment = s.midSegment := rfl
@[simp] theorem dropSample_timer : (dropSample s).timer = s.timer := rfl
@[simp] theorem dropSample_cfg : (dropSample s).cfg = s.cfg := rfl
@[simp] theorem dropSample_radioEnterReq : (dropSample s).radioEnterReq = s.radioEnterReq := rfl
@[simp] theorem dropSample_radioRestoreReq : (dropSample s).radioRestoreReq = s.radioRestoreReq := rfl
@[simp] theorem dropSample_radioMode : (dropSample s).radioMode = s.radioMode := rfl
@[simp] theorem dropSample_restoreHonoured : (dropSample s).restoreHonoured = s.restoreHonoured := rfl
@[simp] theorem dropSample_inputs : (dropSample s).inputs = s.inputs.tail := rfl
@[simp] theorem dropSample_slot : (dropSample s).slot = s.slot := rfl
@[simp] theorem dropSample_ret : (dropSample s).ret = s.ret := rfl
@[simp] theorem dropSample_trace : (dropSample s).trace = s.trace := rfl
@[simp] theorem dropSample_elapsed : (dropSample s).elapsed = s.elapsed := rfl
@[simp] theorem dropSample_draws : (dropSample s).draws = s.draws := rfl

end dropSample

section clearPulses
variable (s : State)

@[simp] theorem clearPulses_base : (clearPulses s).base = s.base := rfl
@[simp] theorem clearPulses_idx : (clearPulses s).idx = s.idx := rfl
@[simp] theorem clearPulses_pid : (clearPulses s).pid = s.pid := rfl
@[simp] theorem clearPulses_act : (clearPulses s).act = s.act := rfl
@[simp] theorem clearPulses_rep : (clearPulses s).rep = s.rep := rfl
@[simp] theorem clearPulses_frame : (clearPulses s).frame = s.frame := rfl
@[simp] theorem clearPulses_pc : (clearPulses s).pc = s.pc := rfl
@[simp] theorem clearPulses_errIdx : (clearPulses s).errIdx = s.errIdx := rfl
@[simp] theorem clearPulses_errCtr : (clearPulses s).errCtr = s.errCtr := rfl
@[simp] theorem clearPulses_errLen : (clearPulses s).errLen = s.errLen := rfl
@[simp] theorem clearPulses_st : (clearPulses s).st = s.st := rfl
@[simp] theorem clearPulses_excl : (clearPulses s).excl = s.excl := rfl
@[simp] theorem clearPulses_result : (clearPulses s).result = s.result := rfl
@[simp] theorem clearPulses_cause : (clearPulses s).cause = s.cause := rfl
@[simp] theorem clearPulses_done : (clearPulses s).done = s.done := rfl
@[simp] theorem clearPulses_lvl : (clearPulses s).lvl = s.lvl := rfl
@[simp] theorem clearPulses_midSegment : (clearPulses s).midSegment = s.midSegment := rfl
@[simp] theorem clearPulses_timer : (clearPulses s).timer = s.timer := rfl
@[simp] theorem clearPulses_cfg : (clearPulses s).cfg = s.cfg := rfl
@[simp] theorem clearPulses_radioEnterReq : (clearPulses s).radioEnterReq = false := rfl
@[simp] theorem clearPulses_radioRestoreReq : (clearPulses s).radioRestoreReq = false := rfl
@[simp] theorem clearPulses_radioMode : (clearPulses s).radioMode = s.radioMode := rfl
@[simp] theorem clearPulses_restoreHonoured : (clearPulses s).restoreHonoured = s.restoreHonoured := rfl
@[simp] theorem clearPulses_inputs : (clearPulses s).inputs = s.inputs := rfl
@[simp] theorem clearPulses_slot : (clearPulses s).slot = s.slot := rfl
@[simp] theorem clearPulses_ret : (clearPulses s).ret = s.ret := rfl
@[simp] theorem clearPulses_trace : (clearPulses s).trace = s.trace := rfl
@[simp] theorem clearPulses_elapsed : (clearPulses s).elapsed = s.elapsed := rfl
@[simp] theorem clearPulses_draws : (clearPulses s).draws = s.draws := rfl

end clearPulses

section takeSlot
variable (s : State)

@[simp] theorem takeSlot_base : (takeSlot s).base = s.base := rfl
@[simp] theorem takeSlot_idx : (takeSlot s).idx = s.idx := rfl
@[simp] theorem takeSlot_pid : (takeSlot s).pid = s.pid := rfl
@[simp] theorem takeSlot_act : (takeSlot s).act = s.act := rfl
@[simp] theorem takeSlot_rep : (takeSlot s).rep = s.rep := rfl
@[simp] theorem takeSlot_frame : (takeSlot s).frame = s.frame := rfl
@[simp] theorem takeSlot_pc : (takeSlot s).pc = s.pc := rfl
@[simp] theorem takeSlot_errIdx : (takeSlot s).errIdx = s.errIdx := rfl
@[simp] theorem takeSlot_errCtr : (takeSlot s).errCtr = s.errCtr := rfl
@[simp] theorem takeSlot_errLen : (takeSlot s).errLen = s.errLen := rfl
@[simp] theorem takeSlot_st : (takeSlot s).st = s.st := rfl
@[simp] theorem takeSlot_excl : (takeSlot s).excl = s.excl := rfl
@[simp] theorem takeSlot_result : (takeSlot s).result = s.result := rfl
@[simp] theorem takeSlot_cause : (takeSlot s).cause = s.cause := rfl
@[simp] theorem takeSlot_done : (takeSlot s).done = s.done := rfl
@[simp] theorem takeSlot_lvl : (takeSlot s).lvl = s.lvl := rfl
@[simp] theorem takeSlot_midSegment : (takeSlot s).midSegment = s.midSegment := rfl
@[simp] theorem takeSlot_timer : (takeSlot s).timer = s.timer := rfl
@[simp] theorem takeSlot_cfg : (takeSlot s).cfg = s.cfg := rfl
@[simp] theorem takeSlot_radioEnterReq : (takeSlot s).radioEnterReq = s.radioEnterReq := rfl
@[simp] theorem takeSlot_radioRestoreReq : (takeSlot s).radioRestoreReq = s.radioRestoreReq := rfl
@[simp] theorem takeSlot_radioMode : (takeSlot s).radioMode = s.radioMode := rfl
@[simp] theorem takeSlot_restoreHonoured : (takeSlot s).restoreHonoured = s.restoreHonoured := rfl
@[simp] theorem takeSlot_inputs : (takeSlot s).inputs = s.inputs := rfl
@[simp] theorem takeSlot_slot : (takeSlot s).slot = none := rfl
@[simp] theorem takeSlot_ret : (takeSlot s).ret = s.ret := rfl
@[simp] theorem takeSlot_trace : (takeSlot s).trace = s.trace := rfl
@[simp] theorem takeSlot_elapsed : (takeSlot s).elapsed = s.elapsed := rfl
@[simp] theorem takeSlot_draws : (takeSlot s).draws = s.draws := rfl

end takeSlot

section restoreRadio
variable (s : State)

@[simp] theorem restoreRadio_base : (restoreRadio s).base = s.base := by
  unfold restoreRadio; split <;> rfl
@[simp] theorem restoreRadio_idx : (restoreRadio s).idx = s.idx := by
  unfold restoreRadio; split <;> rfl
@[simp] theorem restoreRadio_pid : (restoreRadio s).pid = s.pid := by
  unfold restoreRadio; split <;> rfl
@[simp] theorem restoreRadio_act : (restoreRadio s).act = s.act := by
  unfold restoreRadio; split <;> rfl
@[simp] theorem restoreRadio_rep : (restoreRadio s).rep = s.rep := by
  unfold restoreRadio; split <;> rfl
@[simp] theorem restoreRadio_frame : (restoreRadio s).frame = s.frame := by
  unfold restoreRadio; split <;> rfl
@[simp] theorem restoreRadio_pc : (restoreRadio s).pc = s.pc := by
  unfold restoreRadio; split <;> rfl
@[simp] theorem restoreRadio_errIdx : (restoreRadio s).errIdx = s.errIdx := by
  unfold restoreRadio; split <;> rfl
@[simp] theorem restoreRadio_errCtr : (restoreRadio s).errCtr = s.errCtr := by
  unfold restoreRadio; split <;> rfl
@[simp] theorem restoreRadio_errLen : (restoreRadio s).errLen = s.errLen := by
  unfold restoreRadio; split <;> rfl
@[simp] theorem restoreRadio_st : (restoreRadio s).st = s.st := by
  unfold restoreRadio; split <;> rfl
@[simp] theorem restoreRadio_excl : (restoreRadio s).excl = s.excl := by
  unfold restoreRadio; split <;> rfl
@[simp] theorem restoreRadio_result : (restoreRadio s).result = s.result := by
  unfold restoreRadio; split <;> rfl
@[simp] theorem restoreRadio_cause : (restoreRadio s).cause = s.cause := by
  unfold restoreRadio; split <;> rfl
@[simp] theorem restoreRadio_done : (restoreRadio s).done = s.done := by
  unfold restoreRadio; split <;> rfl
@[simp] theorem restoreRadio_lvl : (restoreRadio s).lvl = s.lvl := by
  unfold restoreRadio; split <;> rfl
@[simp] theorem restoreRadio_midSegment : (restoreRadio s).midSegment = s.midSegment := by
  unfold restoreRadio; split <;> rfl
@[simp] theorem restoreRadio_timer : (restoreRadio s).timer = s.timer := by
  unfold restoreRadio; split <;> rfl
@[simp] theorem restoreRadio_cfg : (restoreRadio s).cfg = s.cfg := by
  unfold restoreRadio; split <;> rfl
@[simp] theorem restoreRadio_radioEnterReq : (restoreRadio s).radioEnterReq = s.radioEnterReq := by
  unfold restoreRadio; split <;> rfl
@[simp] theorem restoreRadio_radioRestoreReq : (restoreRadio s).radioRestoreReq = s.radioRestoreReq := by
  unfold restoreRadio; split <;> rfl
@[simp] theorem restoreRadio_restoreHonoured : (restoreRadio s).restoreHonoured = s.restoreHonoured := by
  unfold restoreRadio; split <;> rfl
@[simp] theorem restoreRadio_inputs : (restoreRadio s).inputs = s.inputs := by
  unfold restoreRadio; split <;> rfl
@[simp] theorem restoreRadio_slot : (restoreRadio s).slot = s.slot := by
  unfold restoreRadio; split <;> rfl
@[simp] theorem restoreRadio_ret : (restoreRadio s).ret = s.ret := by
  unfold restoreRadio; split <;> rfl
@[simp] theorem restoreRadio_trace : (restoreRadio s).trace = s.trace := by
  unfold restoreRadio; split <;> rfl
@[simp] theorem restoreRadio_elapsed : (restoreRadio s).elapsed = s.elapsed := by
  unfold restoreRadio; split <;> rfl
@[simp] theorem restoreRadio_radioMode :
    (restoreRadio s).radioMode = if s.restoreHonoured then .normal else Config.radioModeAfterRestore s.draws := by
  unfold restoreRadio; split <;> rfl
@[simp] theorem restoreRadio_draws :
    (restoreRadio s).draws = if s.restoreHonoured then s.draws else s.draws + 1 := by
  unfold restoreRadio; split <;> rfl

end restoreRadio

section issueRestore
variable (s : State)

@[simp] theorem issueRestore_base : (issueRestore s).base = s.base := by simp [issueRestore]
@[simp] theorem issueRestore_idx : (issueRestore s).idx = s.idx := by simp [issueRestore]
@[simp] theorem issueRestore_pid : (issueRestore s).pid = s.pid := by simp [issueRestore]
@[simp] theorem issueRestore_act : (issueRestore s).act = s.act := by simp [issueRestore]
@[simp] theorem issueRestore_rep : (issueRestore s).rep = s.rep := by simp [issueRestore]
@[simp] theorem issueRestore_frame : (issueRestore s).frame = s.frame := by simp [issueRestore]
@[simp] theorem issueRestore_pc : (issueRestore s).pc = s.pc := by simp [issueRestore]
@[simp] theorem issueRestore_errIdx : (issueRestore s).errIdx = s.errIdx := by simp [issueRestore]
@[simp] theorem issueRestore_errCtr : (issueRestore s).errCtr = s.errCtr := by simp [issueRestore]
@[simp] theorem issueRestore_errLen : (issueRestore s).errLen = s.errLen := by simp [issueRestore]
@[simp] theorem issueRestore_st : (issueRestore s).st = .idle := rfl
@[simp] theorem issueRestore_excl : (issueRestore s).excl = s.excl := by simp [issueRestore]
@[simp] theorem issueRestore_result : (issueRestore s).result = .success := rfl
@[simp] theorem issueRestore_cause : (issueRestore s).cause = .none := rfl
@[simp] theorem issueRestore_done : (issueRestore s).done = true := rfl
@[simp] theorem issueRestore_lvl : (issueRestore s).lvl = s.lvl := by simp [issueRestore]
@[simp] theorem issueRestore_midSegment : (issueRestore s).midSegment = s.midSegment := by simp [issueRestore]
@[simp] theorem issueRestore_timer : (issueRestore s).timer = s.timer := by simp [issueRestore]
@[simp] theorem issueRestore_cfg : (issueRestore s).cfg = s.cfg := by simp [issueRestore]
@[simp] theorem issueRestore_radioEnterReq : (issueRestore s).radioEnterReq = s.radioEnterReq := by simp [issueRestore]
@[simp] theorem issueRestore_radioRestoreReq : (issueRestore s).radioRestoreReq = true := rfl
@[simp] theorem issueRestore_radioMode :
    (issueRestore s).radioMode = if s.restoreHonoured then .normal else Config.radioModeAfterRestore s.draws := by
  simp [issueRestore]
@[simp] theorem issueRestore_restoreHonoured : (issueRestore s).restoreHonoured = s.restoreHonoured := by simp [issueRestore]
@[simp] theorem issueRestore_inputs : (issueRestore s).inputs = s.inputs := by simp [issueRestore]
@[simp] theorem issueRestore_slot : (issueRestore s).slot = s.slot := by simp [issueRestore]
@[simp] theorem issueRestore_ret : (issueRestore s).ret = s.ret := by simp [issueRestore]
@[simp] theorem issueRestore_trace : (issueRestore s).trace = s.trace ++ [.restore] := by
  simp [issueRestore]
@[simp] theorem issueRestore_elapsed : (issueRestore s).elapsed = s.elapsed := by simp [issueRestore]
@[simp] theorem issueRestore_draws : (issueRestore s).draws = if s.restoreHonoured then s.draws else s.draws + 1 := by
  simp [issueRestore]

end issueRestore

section segmentLevel
variable (k : SegKind) (s : State)

@[simp] theorem segmentLevel_base : (segmentLevel k s).base = s.base := rfl
@[simp] theorem segmentLevel_idx : (segmentLevel k s).idx = s.idx := rfl
@[simp] theorem segmentLevel_pid : (segmentLevel k s).pid = s.pid := rfl
@[simp] theorem segmentLevel_act : (segmentLevel k s).act = s.act := rfl
@[simp] theorem segmentLevel_rep : (segmentLevel k s).rep = s.rep := rfl
@[simp] theorem segmentLevel_frame : (segmentLevel k s).frame = s.frame := rfl
@[simp] theorem segmentLevel_pc : (segmentLevel k s).pc = s.pc := rfl
@[simp] theorem segmentLevel_errIdx : (segmentLevel k s).errIdx = s.errIdx := rfl
@[simp] theorem segmentLevel_errCtr : (segmentLevel k s).errCtr = s.errCtr := rfl
@[simp] theorem segmentLevel_errLen : (segmentLevel k s).errLen = s.errLen := rfl
@[simp] theorem segmentLevel_st : (segmentLevel k s).st = s.st := rfl
@[simp] theorem segmentLevel_excl : (segmentLevel k s).excl = s.excl := rfl
@[simp] theorem segmentLevel_result : (segmentLevel k s).result = s.result := rfl
@[simp] theorem segmentLevel_cause : (segmentLevel k s).cause = s.cause := rfl
@[simp] theorem segmentLevel_done : (segmentLevel k s).done = s.done := rfl
@[simp] theorem segmentLevel_lvl : (segmentLevel k s).lvl = k.level := rfl
@[simp] theorem segmentLevel_midSegment : (segmentLevel k s).midSegment = s.midSegment := rfl
@[simp] theorem segmentLevel_timer : (segmentLevel k s).timer = s.timer := rfl
@[simp] theorem segmentLevel_cfg : (segmentLevel k s).cfg = s.cfg := rfl
@[simp] theorem segmentLevel_radioEnterReq : (segmentLevel k s).radioEnterReq = s.radioEnterReq := rfl
@[simp] theorem segmentLevel_radioRestoreReq : (segmentLevel k s).radioRestoreReq = s.radioRestoreReq := rfl
@[simp] theorem segmentLevel_radioMode : (segmentLevel k s).radioMode = s.radioMode := rfl
@[simp] theorem segmentLevel_restoreHonoured : (segmentLevel k s).restoreHonoured = s.restoreHonoured := rfl
@[simp] theorem segmentLevel_inputs : (segmentLevel k s).inputs = s.inputs := rfl
@[simp] theorem segmentLevel_slot : (segmentLevel k s).slot = s.slot := rfl
@[simp] theorem segmentLevel_ret : (segmentLevel k s).ret = s.ret := rfl
@[simp] theorem segmentLevel_trace : (segmentLevel k s).trace = s.trace ++ [if k.level then .high else .low] := rfl
@[simp] theorem segmentLevel_elapsed : (segmentLevel k s).elapsed = s.elapsed := rfl
@[simp] theorem segmentLevel_draws : (segmentLevel k s).draws = s.draws := rfl

end segmentLevel

section segmentSleep
variable (k : SegKind) (s : State)

@[simp] theorem segmentSleep_base : (segmentSleep k s).base = s.base := rfl
@[simp] theorem segmentSleep_idx : (segmentSleep k s).idx = s.idx := rfl
@[simp] theorem segmentSleep_pid : (segmentSleep k s).pid = s.pid := rfl
@[simp] theorem segmentSleep_act : (segmentSleep k s).act = s.act := rfl
@[simp] theorem segmentSleep_rep : (segmentSleep k s).rep = s.rep := rfl
@[simp] theorem segmentSleep_frame : (segmentSleep k s).frame = s.frame := rfl
@[simp] theorem segmentSleep_pc : (segmentSleep k s).pc = s.pc + 1 := rfl
@[simp] theorem segmentSleep_errIdx : (segmentSleep k s).errIdx = s.errIdx := rfl
@[simp] theorem segmentSleep_errCtr : (segmentSleep k s).errCtr = s.errCtr := rfl
@[simp] theorem segmentSleep_errLen : (segmentSleep k s).errLen = s.errLen := rfl
@[simp] theorem segmentSleep_st : (segmentSleep k s).st = s.st := rfl
@[simp] theorem segmentSleep_excl : (segmentSleep k s).excl = s.excl := rfl
@[simp] theorem segmentSleep_result : (segmentSleep k s).result = s.result := rfl
@[simp] theorem segmentSleep_cause : (segmentSleep k s).cause = s.cause := rfl
@[simp] theorem segmentSleep_done : (segmentSleep k s).done = s.done := rfl
@[simp] theorem segmentSleep_lvl : (segmentSleep k s).lvl = s.lvl := rfl
@[simp] theorem segmentSleep_midSegment : (segmentSleep k s).midSegment = s.midSegment := rfl
@[simp] theorem segmentSleep_timer : (segmentSleep k s).timer = 0 := rfl
@[simp] theorem segmentSleep_cfg : (segmentSleep k s).cfg = s.cfg := rfl
@[simp] theorem segmentSleep_radioEnterReq : (segmentSleep k s).radioEnterReq = s.radioEnterReq := rfl
@[simp] theorem segmentSleep_radioRestoreReq : (segmentSleep k s).radioRestoreReq = s.radioRestoreReq := rfl
@[simp] theorem segmentSleep_radioMode : (segmentSleep k s).radioMode = s.radioMode := rfl
@[simp] theorem segmentSleep_restoreHonoured : (segmentSleep k s).restoreHonoured = s.restoreHonoured := rfl
@[simp] theorem segmentSleep_inputs : (segmentSleep k s).inputs = s.inputs := rfl
@[simp] theorem segmentSleep_slot : (segmentSleep k s).slot = s.slot := rfl
@[simp] theorem segmentSleep_ret : (segmentSleep k s).ret = s.ret := rfl
@[simp] theorem segmentSleep_trace : (segmentSleep k s).trace = s.trace ++ [.sleep (s.cfg.tt.entry k)] := rfl
@[simp] theorem segmentSleep_elapsed : (segmentSleep k s).elapsed = s.elapsed + (s.cfg.tt.entry k).toNat := rfl
@[simp] theorem segmentSleep_draws : (segmentSleep k s).draws = s.draws := rfl

end segmentSleep

section openSegment
variable (k : SegKind) (s : State)

@[simp] theorem openSegment_base : (openSegment k s).base = s.base := rfl
@[simp] theorem openSegment_idx : (openSegment k s).idx = s.idx := rfl
@[simp] theorem openSegment_pid : (openSegment k s).pid = s.pid := rfl
@[simp] theorem openSegment_act : (openSegment k s).act = s.act := rfl
@[simp] theorem openSegment_rep : (openSegment k s).rep = s.rep := rfl
@[simp] theorem openSegment_frame : (openSegment k s).frame = s.frame := rfl
@[simp] theorem openSegment_pc : (openSegment k s).pc = s.pc := rfl
@[simp] theorem openSegment_errIdx : (openSegment k s).errIdx = s.errIdx := rfl
@[simp] theorem openSegment_errCtr : (openSegment k s).errCtr = s.errCtr := rfl
@[simp] theorem openSegment_errLen : (openSegment k s).errLen = s.errLen := rfl
@[simp] theorem openSegment_st : (openSegment k s).st = s.st := rfl
@[simp] theorem openSegment_excl : (openSegment k s).excl = s.excl := rfl
@[simp] theorem openSegment_result : (openSegment k s).result = s.result := rfl
@[simp] theorem openSegment_cause : (openSegment k s).cause = s.cause := rfl
@[simp] theorem openSegment_done : (openSegment k s).done = s.done := rfl
@[simp] theorem openSegment_lvl : (openSegment k s).lvl = k.level := rfl
@[simp] theorem openSegment_midSegment : (openSegment k s).midSegment = true := rfl
@[simp] theorem openSegment_timer : (openSegment k s).timer = s.timer := rfl
@[simp] theorem openSegment_cfg : (openSegment k s).cfg = s.cfg := rfl
@[simp] theorem openSegment_radioEnterReq : (openSegment k s).radioEnterReq = s.radioEnterReq := rfl
@[simp] theorem openSegment_radioRestoreReq : (openSegment k s).radioRestoreReq = s.radioRestoreReq := rfl
@[simp] theorem openSegment_radioMode : (openSegment k s).radioMode = s.radioMode := rfl
@[simp] theorem openSegment_restoreHonoured : (openSegment k s).restoreHonoured = s.restoreHonoured := rfl
@[simp] theorem openSegment_inputs : (openSegment k s).inputs = s.inputs := rfl
@[simp] theorem openSegment_slot : (openSegment k s).slot = s.slot := rfl
@[simp] theorem openSegment_ret : (openSegment k s).ret = s.ret := rfl
@[simp] theorem openSegment_trace : (openSegment k s).trace = s.trace ++ [if k.level then .high else .low] := rfl
@[simp] theorem openSegment_elapsed : (openSegment k s).elapsed = s.elapsed := rfl
@[simp] theorem openSegment_draws : (openSegment k s).draws = s.draws := rfl

end openSegment

section closeSegment
variable (k : SegKind) (s : State)

@[simp] theorem closeSegment_base : (closeSegment k s).base = s.base := rfl
@[simp] theorem closeSegment_idx : (closeSegment k s).idx = s.idx := rfl
@[simp] theorem closeSegment_pid : (closeSegment k s).pid = s.pid := rfl
@[simp] theorem closeSegment_act : (closeSegment k s).act = s.act := rfl
@[simp] theorem closeSegment_rep : (closeSegment k s).rep = s.rep := rfl
@[simp] theorem closeSegment_frame : (closeSegment k s).frame = s.frame := rfl
@[simp] theorem closeSegment_pc : (closeSegment k s).pc = s.pc + 1 := rfl
@[simp] theorem closeSegment_errIdx : (closeSegment k s).errIdx = s.errIdx := rfl
@[simp] theorem closeSegment_errCtr : (closeSegment k s).errCtr = s.errCtr := rfl
@[simp] theorem closeSegment_errLen : (closeSegment k s).errLen = s.errLen := rfl
@[simp] theorem closeSegment_st : (closeSegment k s).st = s.st := rfl
@[simp] theorem closeSegment_excl : (closeSegment k s).excl = s.excl := rfl
@[simp] theorem closeSegment_result : (closeSegment k s).result = s.result := rfl
@[simp] theorem closeSegment_cause : (closeSegment k s).cause = s.cause := rfl
@[simp] theorem closeSegment_done : (closeSegment k s).done = s.done := rfl
@[simp] theorem closeSegment_lvl : (closeSegment k s).lvl = s.lvl := rfl
@[simp] theorem closeSegment_midSegment : (closeSegment k s).midSegment = false := rfl
@[simp] theorem closeSegment_timer : (closeSegment k s).timer = 0 := rfl
@[simp] theorem closeSegment_cfg : (closeSegment k s).cfg = s.cfg := rfl
@[simp] theorem closeSegment_radioEnterReq : (closeSegment k s).radioEnterReq = s.radioEnterReq := rfl
@[simp] theorem closeSegment_radioRestoreReq : (closeSegment k s).radioRestoreReq = s.radioRestoreReq := rfl
@[simp] theorem closeSegment_radioMode : (closeSegment k s).radioMode = s.radioMode := rfl
@[simp] theorem closeSegment_restoreHonoured : (closeSegment k s).restoreHonoured = s.restoreHonoured := rfl
@[simp] theorem closeSegment_inputs : (closeSegment k s).inputs = s.inputs := rfl
@[simp] theorem closeSegment_slot : (closeSegment k s).slot = s.slot := rfl
@[simp] theorem closeSegment_ret : (closeSegment k s).ret = s.ret := rfl
@[simp] theorem closeSegment_trace : (closeSegment k s).trace = s.trace ++ [.sleep (s.cfg.tt.entry k)] := rfl
@[simp] theorem closeSegment_elapsed : (closeSegment k s).elapsed = s.elapsed + (s.cfg.tt.entry k).toNat := rfl
@[simp] theorem closeSegment_draws : (closeSegment k s).draws = s.draws := rfl

end closeSegment

end Sys2Proof.Machine
end

