-- ==== Sys2Proof/Laws/Ops.lean ====
section
/-! SUPPORT. For each shared operation one lemma that says all it can do, for the proofs to cite instead of unfolding it. -/

namespace Sys2Proof.Machine

/-! ### Codec and checks -/

/-- ENC on a value in range (R65). -/
theorem encodeUnsigned_of_lt {value width : Nat} (h : value < 2 ^ width) :
    encodeUnsigned value width = (bitsOf width value, false) := by
  simp [encodeUnsigned, h]

/-- ENC on a value out of range (R65, R70). -/
theorem encodeUnsigned_of_ge {value width : Nat} (h : 2 ^ width ≤ value) :
    encodeUnsigned value width = (List.replicate width false, true) := by
  simp [encodeUnsigned, Nat.not_lt.mpr h]

@[simp] theorem encodeUnsigned_length (value width : Nat) : (encodeUnsigned value width).1.length = width := by
  unfold encodeUnsigned; split <;> simp

/-- The frame string's length depends on the two bit strings only (R78). -/
@[simp] theorem frameString_length (base idx : Nat) (pid act : Bits) :
    (frameString base idx pid act).length = 22 + pid.length + act.length := by
  simp [frameString]; omega

@[simp] theorem buildChecks_eIdx (base idx : Nat) (pid act : Bits) :
    (buildChecks base idx pid act).eIdx = decide (16 ≤ idx) := by
  simp only [buildChecks, encodeUnsigned]; split <;> simp <;> omega

@[simp] theorem buildChecks_eCtr (base idx : Nat) (pid act : Bits) :
    (buildChecks base idx pid act).eCtr = decide (512 ≤ base + idx) := by
  by_cases h : base + idx < 512
  · simp [buildChecks, counterValue, encodeUnsigned_of_lt (width := 9) h, h]
  · have h' : 2 ^ 9 ≤ base + idx := by omega
    simp [buildChecks, counterValue, encodeUnsigned_of_ge h']; omega

@[simp] theorem buildChecks_eLen (base idx : Nat) (pid act : Bits) :
    (buildChecks base idx pid act).eLen = decide (pid.length + act.length ≠ 19) := by
  by_cases h : pid.length + act.length = 19
  · have h' : 22 + pid.length + act.length = 41 := by omega
    simp [buildChecks, h, h']
  · have h' : ¬ (22 + pid.length + act.length = 41) := by omega
    simp [buildChecks, h, h']

/-! ### Segments -/

/-- One segment: what it writes, and that it writes nothing else (R98 to R102). -/
theorem runSegment_eq (k : SegKind) (s : State) :
    runSegment k s =
      { s with
          lvl := k.level
          trace := s.trace ++ segEvents s.cfg.tt k
          timer := 0
          elapsed := s.elapsed + (s.cfg.tt.entry k).toNat
          pc := s.pc + 1 } := by
  simp [runSegment, segmentSleep, segmentLevel, sleepFor, completeSleep, startSleep, memWriteGpio, emit, advancePc,
    memReadTT, segEvents]

/-- The level-write step of a segment: what it writes, and that it writes nothing else (R7, R93). -/
theorem openSegment_eq (k : SegKind) (s : State) :
    openSegment k s =
      { s with
          lvl := k.level
          midSegment := true
          trace := s.trace ++ [if k.level then .high else .low] } := rfl

/-- The sleep step of a segment: what it writes, and that it writes nothing else (R7, R93). -/
theorem closeSegment_eq (k : SegKind) (s : State) :
    closeSegment k s =
      { s with
          midSegment := false
          trace := s.trace ++ [.sleep (s.cfg.tt.entry k)]
          timer := 0
          elapsed := s.elapsed + (s.cfg.tt.entry k).toNat
          pc := s.pc + 1 } := rfl

/-- The two steps together are the whole segment (R7, R98 to R102). -/
theorem closeSegment_openSegment (k : SegKind) (s : State) (h : s.midSegment = false) :
    closeSegment k (openSegment k s) = runSegment k s := by
  rw [openSegment_eq, closeSegment_eq, runSegment_eq]
  simp [segEvents, h]

@[simp] theorem runSegment_cfg (k : SegKind) (s : State) : (runSegment k s).cfg = s.cfg := rfl

/-- Segments in a row: what they write, and that they write nothing else (R104 to R106). -/
theorem runSegments_eq (ks : List SegKind) (s : State) :
    runSegments ks s =
      { s with
          lvl := (ks.getLast?.map SegKind.level).getD s.lvl
          trace := s.trace ++ ks.flatMap (segEvents s.cfg.tt)
          timer := if ks = [] then s.timer else 0
          elapsed := s.elapsed + totalTime s.cfg.tt ks
          pc := s.pc + BitVec.ofNat 15 ks.length } := by
  induction ks generalizing s with
  | nil => simp [runSegments, totalTime]
  | cons k ks ih =>
    rw [runSegments, ih, runSegment_eq]
    have hpc : s.pc + 1 + BitVec.ofNat 15 ks.length = s.pc + BitVec.ofNat 15 (ks.length + 1) := by
      rw [BitVec.ofNat_add, BitVec.add_assoc, BitVec.add_comm 1]
      rfl
    have ht : s.elapsed + (s.cfg.tt.entry k).toNat + totalTime s.cfg.tt ks = s.elapsed + totalTime s.cfg.tt (k :: ks) := by
      simp [totalTime, Nat.add_assoc]
    cases ks with
    | nil => simp_all [totalTime]
    | cons k' ks' =>
      obtain ⟨x, hx⟩ : ∃ x, (k' :: ks').getLast? = some x := ⟨_, List.getLast?_eq_some_getLast (by simp)⟩
      simpa [List.getLast?_cons_cons, hx, ht] using hpc

/-! ### The answer of an operation -/

/-- Every operation but RESOLVE answers a next state; RESOLVE is refused where it is not built (log 12). -/
theorem exec_total (i : Instr) (s : State) :
    (∃ t, exec i s = .next t) ∨
      ((∃ a d r, i = .resolve a d r) ∧ s.cfg.hasResolve = false ∧ exec i s = .refused .resolveNotBuilt) := by
  cases i with
  | resolve a d r =>
    by_cases h : s.cfg.hasResolve
    · exact .inl ⟨_, by simp only [exec, execResolve, h, if_true]; rfl⟩
    · exact .inr ⟨⟨a, d, r, rfl⟩, by simpa using h, by simp [exec, execResolve, h]⟩
  | transmit b d p a r =>
    left
    simp only [exec, execTransmit]
    split <;> exact ⟨_, rfl⟩
  | enc => exact .inl ⟨_, rfl⟩
  | enc4 => exact .inl ⟨_, rfl⟩
  | enc9 => exact .inl ⟨_, rfl⟩
  | frame => exact .inl ⟨_, rfl⟩
  | build => exact .inl ⟨_, rfl⟩
  | syncH => exact .inl ⟨_, rfl⟩
  | syncL => exact .inl ⟨_, rfl⟩
  | bit0H => exact .inl ⟨_, rfl⟩
  | bit1H => exact .inl ⟨_, rfl⟩
  | gapL => exact .inl ⟨_, rfl⟩
  | emitSync => exact .inl ⟨_, rfl⟩
  | emitBit => exact .inl ⟨_, rfl⟩
  | emitFrame => exact .inl ⟨_, rfl⟩
  | radioEnter => exact .inl ⟨_, rfl⟩
  | radioRestore => exact .inl ⟨_, rfl⟩
  | exclEnter => exact .inl ⟨_, rfl⟩
  | exclExit => exact .inl ⟨_, rfl⟩
  | gpioHigh => exact .inl ⟨_, rfl⟩
  | gpioLow => exact .inl ⟨_, rfl⟩
  | sleepUs => exact .inl ⟨_, rfl⟩

/-! ### Acceptance -/

/-- Acceptance takes one of two ways (R93, the two IDLE rows). -/
theorem acceptCommand_cases (c : Cmd) (s : State) :
    (∃ e, validationCause (cmdChecks c) c.rep = some e ∧
      acceptCommand c s = raiseError .constructionError e (writeFlags (cmdChecks c) (latchOperands c s))) ∨
    (validationCause (cmdChecks c) c.rep = none ∧
      acceptCommand c s =
        issueEnter { writeFlags (cmdChecks c) (latchOperands c s) with frame := cmdFrame c }) := by
  unfold acceptCommand
  cases h : validationCause (cmdChecks c) c.rep with
  | some e => exact .inl ⟨e, rfl, rfl⟩
  | none => exact .inr ⟨rfl, rfl⟩

/-- A command passes validation exactly when its counter fits and its count is positive (R92). -/
theorem validationCause_eq_none (c : Cmd) : validationCause (cmdChecks c) c.rep = none ↔ cmdValid c := by
  have hi : c.idx.toNat < 16 := c.idx.isLt
  have h1 : ¬ (16 ≤ c.idx.toNat) := by omega
  unfold validationCause causeOfChecks cmdChecks cmdValid
  by_cases hc : 512 ≤ c.base.toNat + c.idx.toNat
  · have hc' : ¬ (c.base.toNat + c.idx.toNat ≤ 511) := by omega
    simp [h1, hc, hc']
  · have hc' : c.base.toNat + c.idx.toNat ≤ 511 := by omega
    by_cases hr : c.rep = 0#8 <;> simp [h1, hc, hc', hr]

/-! ### The step -/

/-- A step with an operation presented directly (log 1). -/
theorem step_of_slot {s : State} {q : Request} (h : s.slot = some q) : step s = directStep q (clearPulses s) := by
  simp [step, machineStep, h]

/-- A step of the FSM (R93). -/
theorem step_of_empty {s : State} (h : s.slot = none) :
    step s = fsmStep (samplePorts s) (dropSample (clearPulses s)) := by
  simp [step, machineStep, h]

end Sys2Proof.Machine
end

