-- ==== Sys2Proof/Laws/PerInstr.lean ====
section
/-! SUPPORT. Statements about every operation as syntax, one lemma for each constructor of `Instr`. -/

namespace Sys2Proof.Laws

/-- The string an operation is presented as has its format's length (spec/30_encoding.md R45). -/
def EncodedLength.Statement (i : Instr) : Prop :=
  i.wf = true → ∀ tt, (encode tt i).fmt.fits (encode tt i).bits = true

/-- A SEG33 word has 33 bits (R54). -/
theorem segWord_length (tt : TimingTable) (k : SegKind) : (segWord tt k).length = 33 := by
  simp [segWord]

theorem EncodedLength.enc (value width : Nat) : EncodedLength.Statement (.enc value width) := by
  intro _ tt; simp [encode, Format.fits, Format.length?]

theorem EncodedLength.enc4 (v : Nat) : EncodedLength.Statement (.enc4 v) := by
  intro _ tt; simp [encode, Format.fits, Format.length?]

theorem EncodedLength.enc9 (v : Nat) : EncodedLength.Statement (.enc9 v) := by
  intro _ tt; simp [encode, Format.fits, Format.length?]

theorem EncodedLength.frame (d : BitVec 4) (p : BitVec 17) (c : BitVec 9) (a : BitVec 2) :
    EncodedLength.Statement (.frame d p c a) := by
  intro _ tt; simp [encode, encodeFrame, Format.fits, Format.length?]

theorem EncodedLength.build (base idx : Nat) (pid act : Bits) : EncodedLength.Statement (.build base idx pid act) := by
  intro h tt
  simp only [Instr.wf, Bool.and_eq_true, decide_eq_true_eq] at h
  simp [encode, Format.fits, Format.length?, h.1.2, h.2]

theorem EncodedLength.resolve (action : BitVec 2) (idx : BitVec 4) (rep : BitVec 8) :
    EncodedLength.Statement (.resolve action idx rep) := by
  intro _ tt; simp [encode, Format.fits, Format.length?]

theorem EncodedLength.transmit (base : BitVec 32) (idx : BitVec 4) (pid : BitVec 17) (act : BitVec 2) (rep : BitVec 8) :
    EncodedLength.Statement (.transmit base idx pid act rep) := by
  intro _ tt; simp [encode, encodeCmd, Format.fits, Format.length?]

theorem EncodedLength.syncH : EncodedLength.Statement .syncH := by
  intro _ tt; simp [encode, segWord_length, Format.fits, Format.length?]

theorem EncodedLength.syncL : EncodedLength.Statement .syncL := by
  intro _ tt; simp [encode, segWord_length, Format.fits, Format.length?]

theorem EncodedLength.bit0H : EncodedLength.Statement .bit0H := by
  intro _ tt; simp [encode, segWord_length, Format.fits, Format.length?]

theorem EncodedLength.bit1H : EncodedLength.Statement .bit1H := by
  intro _ tt; simp [encode, segWord_length, Format.fits, Format.length?]

theorem EncodedLength.gapL : EncodedLength.Statement .gapL := by
  intro _ tt; simp [encode, segWord_length, Format.fits, Format.length?]

theorem EncodedLength.emitSync : EncodedLength.Statement .emitSync := fun _ _ => rfl

theorem EncodedLength.emitBit (b : Fin 41) : EncodedLength.Statement (.emitBit b) := by
  intro _ tt; simp [encode, Format.fits, Format.length?]

theorem EncodedLength.emitFrame : EncodedLength.Statement .emitFrame := fun _ _ => rfl

theorem EncodedLength.radioEnter : EncodedLength.Statement .radioEnter := fun _ _ => rfl

theorem EncodedLength.radioRestore : EncodedLength.Statement .radioRestore := fun _ _ => rfl

theorem EncodedLength.exclEnter : EncodedLength.Statement .exclEnter := fun _ _ => rfl

theorem EncodedLength.exclExit : EncodedLength.Statement .exclExit := fun _ _ => rfl

theorem EncodedLength.gpioHigh : EncodedLength.Statement .gpioHigh := fun _ _ => rfl

theorem EncodedLength.gpioLow : EncodedLength.Statement .gpioLow := fun _ _ => rfl

theorem EncodedLength.sleepUs (d : BitVec 32) : EncodedLength.Statement (.sleepUs d) := by
  intro _ tt; simp [encode, Format.fits, Format.length?]

end Sys2Proof.Laws
end

