-- ==== Sys2Proof/Tests/Slice0.lean ====
section
/-! SUPPORT. The model's own tests. Expected values are those of spec/95_test_vectors.md and of the encodings of
spec/30_encoding.md and spec/opcode_table.json, written out by hand. For every obligation with hypotheses a theorem
`witness_…` shows operands and a state that meet them. -/

namespace Sys2Proof.Machine.Tests

open Sys2Proof Sys2Proof.Machine

/-! ### Helpers -/

/-- A bit string written as the spec writes it. -/
def str (s : String) : Bits := s.toList.map (fun c => c == '1')

/-- `00001001110011111`. -/
def pid : BitVec 17 := 0b00001001110011111

/-- The frame of spec/95 S1. -/
def frameS1 : BitVec 41 := 0b00000100000100111001111100000010101110000

/-- A configuration with the constants spec/95 section 2.4 assumes. -/
def cfg : Configuration :=
  { tt := .documented, protocolId := pid, baseRaise := 200, baseLower := 346, basePause := 50
    codeRaise := 0b01, codeLower := 0b00, codePause := 0b10, hasResolve := true, ticksPerUs := 16 }

/-- IDLE, after reset, under `cfg`. -/
def idle : State := { State.reset with cfg := cfg }

/-- IDLE with an operation presented directly. -/
def presenting (f : Format) (b : Bits) : State := { idle with slot := some ⟨f, b⟩ }

/-- A block in `st` in the course of P1 (spec/95), at segment `k` of `rep` repetitions. -/
def during (st : FsmState) (rep : BitVec 8) (k : BitVec 15) : State :=
  { idle with base := 346, idx := 2, pid := pid, act := 0, rep := rep, frame := frameS1, pc := k, st := st }

/-- Inside the critical section, at the start of segment `k`. -/
def critical (rep : BitVec 8) (k : BitVec 15) : State :=
  { during .criticalSection rep k with excl := true, radioMode := .direct, lvl := decide (k.toNat % 2 = 1) }

/-- Inside the critical section, in the middle of segment `k`: its level written, its sleep to come. -/
def midway (rep : BitVec 8) (k : BitVec 15) : State :=
  { critical rep k with midSegment := true, lvl := (segAt frameS1 k.toNat).level }

/-- The samples to come. -/
def seeing (s : State) (ps : List PortSample) : State := { s with inputs := ps }

def presentCmd (c : Cmd) : PortSample := { PortSample.quiet with cmd := some (.cmd c) }
def presentRcmd (r : RCmd) : PortSample := { PortSample.quiet with cmd := some (.rcmd r) }
def ok : PortSample := { PortSample.quiet with enterOk := true }
def fail : PortSample := { PortSample.quiet with enterFail := true }
def both : PortSample := { PortSample.quiet with enterOk := true, enterFail := true }
def resetting : PortSample := { PortSample.quiet with rst := true }

/-- `TRANSMIT(base, idx, PID, 00, rep)`. -/
def cmd (base : BitVec 32) (idx : BitVec 4) (rep : BitVec 8) : Cmd := ⟨base, idx, pid, 0, rep⟩

/-- What is seen of a next state. -/
def seen {α : Type} (f : State → α) : Host.Outcome State Fault Refusal → Option α
  | .next t => some (f t)
  | .fault _ => none
  | .refused _ => none

/-- What the decoder reads, with the documented timing table. -/
def reads (f : Format) (b : Bits) : Option Instr :=
  match decode .documented ⟨f, b⟩ with
  | .ok i => some i
  | .error _ => none

/-- Why the decoder refuses. -/
def refuses (f : Format) (b : Bits) : Option DecodeError :=
  match decode .documented ⟨f, b⟩ with
  | .ok _ => none
  | .error e => some e

/-! ### Well-formedness: an ill-formed term for each check -/

theorem test_wf_enc_width : Instr.wf (.enc 3 0) = false := by decide
theorem test_wf_enc4_range : Instr.wf (.enc4 16) = false := by decide
theorem test_wf_enc9_range : Instr.wf (.enc9 512) = false := by decide
theorem test_wf_build_base : Instr.wf (.build (2 ^ 32) 2 (bitsOf 17 0) (bitsOf 2 0)) = false := by decide
theorem test_wf_build_idx : Instr.wf (.build 0 16 (bitsOf 17 0) (bitsOf 2 0)) = false := by decide
theorem test_wf_build_pid : Instr.wf (.build 0 2 (bitsOf 18 0) (bitsOf 2 0)) = false := by decide
theorem test_wf_build_act : Instr.wf (.build 0 2 (bitsOf 17 0) (bitsOf 1 0)) = false := by decide
theorem test_wf_build : Instr.wf (.build 346 2 (bitsOf 17 5) (bitsOf 2 0)) = true := by decide

/-! ### Decoding, a word written out for each constructor -/

/-- ENC(348, 9) and, at a width the codec is not instantiated at, ENC(348, 12): the value 101011100. -/
theorem test_decode_enc : reads (.func 9) (str "101011100") = some (.enc 348 9) ∧
    reads (.func 12) (str "101011100") = some (.enc 348 12) := by decide
/-- ENC4(10) = 1010 (R67). -/
theorem test_decode_enc4 : decodeTableWord 4 0b1010 = some (.enc4 10) := by decide
/-- ENC9(348) = 101011100 (R68). -/
theorem test_decode_enc9 : decodeTableWord 9 0b101011100 = some (.enc9 348) := by decide
/-- The frame of S1. -/
theorem test_decode_frame : reads .frame41 (str "00000100000100111001111100000010101110000") =
    some (.frame 0b0010 pid 0b101011100 0b00) := by decide
/-- BUILD(346, 2, PID, 01): R51 without r. -/
theorem test_decode_build : reads .buildOps
    (str "00000000000000000000000101011010" ++ str "0010" ++ str "00001001110011111" ++ str "01") =
      some (.build 346 2 (str "00001001110011111") [false, true]) := by decide
/-- RESOLVE(LOWER, 15, 3). -/
theorem test_decode_resolve : decodeTableWord 14 0b01111100000011 = some (.resolve 1 15 3) := by decide
/-- P2's command. -/
theorem test_decode_transmit : decodeTableWord 64 0x000000F8F84E7C03 = some (.transmit 497 15 pid 0 3) := by decide
/-- The SEG33 words of the opcode table, as strings. -/
theorem test_decode_syncH :
    reads .seg33 (str "100000000000000000000111110100000") = some .syncH := by decide
theorem test_decode_syncL :
    reads .seg33 (str "000000000000000000000111110100000") = some .syncL := by decide
theorem test_decode_bit0H :
    reads .seg33 (str "100000000000000000000001010000010") = some .bit0H := by decide
theorem test_decode_bit1H :
    reads .seg33 (str "100000000000000000000010100010100") = some .bit1H := by decide
theorem test_decode_gapL :
    reads .seg33 (str "000000000000000000000001011101110") = some .gapL := by decide
theorem test_decode_emitSync : reads .macroSync [] = some .emitSync := by decide
/-- EMIT_BIT(40), the position in the format (log 20). -/
theorem test_decode_emitBit : reads (.macroBit 40) [] = some (.emitBit 40) := by decide
theorem test_decode_emitFrame : reads .macroFrame [] = some .emitFrame := by decide
theorem test_decode_radioEnter : reads .callEnter [] = some .radioEnter := by decide
theorem test_decode_radioRestore : reads .callRestore [] = some .radioRestore := by decide
theorem test_decode_exclEnter : decodeTableWord 1 1 = some .exclEnter := by decide
theorem test_decode_exclExit : decodeTableWord 1 0 = some .exclExit := by decide
theorem test_decode_gpioHigh : reads .gpio1 (str "1") = some .gpioHigh := by decide
theorem test_decode_gpioLow : reads .gpio1 (str "0") = some .gpioLow := by decide
/-- SLEEP_US(4000). -/
theorem test_decode_sleepUs : decodeTableWord 32 0xFA0 = some (.sleepUs 4000) := by decide

/-- Every refusal of the decoder by name. -/
theorem test_decode_refusals :
    refuses .cmd (str "1") = some (.wrongLength .cmd) ∧
    refuses (.func 0) (str "1") = some .zeroWidth ∧
    refuses .frame41 (str "10000100000100111001111100000010101110000") = some .reservedNonzero ∧
    refuses .seg33 (str "100000000000000000000001011101110") = some .illegalSegment ∧
    refuses (.macroBit 0) (str "1") = some (.wrongLength (.macroBit 0)) := by decide

/-! ### Meanings, against spec/95 -/

theorem test_enc_348 : seen State.ret (exec (.enc 348 9) idle) = some (.bits (str "101011100") false) := by decide
theorem test_enc4_ten : seen State.ret (exec (.enc4 10) idle) = some (.bits (str "1010") false) := by decide
theorem test_enc9_edge :
    seen State.ret (exec (.enc9 511) idle) = some (.bits (str "111111111") false) ∧
    seen State.ret (exec (.enc9 512) idle) = some (.bits (str "000000000") true) := by decide
theorem test_frame_S1 :
    seen State.ret (exec (.frame 0b0010 pid 0b101011100 0b00) idle) = some (.frame 0x008273E0570) := by decide
/-- The rows 496, 15, 01 and 346, 2, 00 of 2.3. -/
theorem test_build_frames :
    seen State.ret (exec (.build 346 2 (str "00001001110011111") (str "00")) idle) = some (.frame 0x008273E0570) ∧
    seen State.ret (exec (.build 496 15 (str "00001001110011111") (str "01")) idle) = some (.frame 0x03C273E07FD) := by
  decide
/-- CTR_RANGE at 512 and at 2^32; IDX_RANGE before CTR_RANGE; LEN at 42 bits. -/
theorem test_build_errors :
    seen State.ret (exec (.build 497 15 (str "00001001110011111") (str "01")) idle) =
      some (.constructionError .ctrRange) ∧
    seen State.ret (exec (.build 4294967295 1 (str "00001001110011111") (str "00")) idle) =
      some (.constructionError .ctrRange) ∧
    seen (fun t => (t.ret, t.errIdx, t.errCtr, t.errLen)) (exec (.build 600 16 (str "00001001110011111") (str "00")) idle) =
      some (.constructionError .idxRange, true, true, false) ∧
    seen (fun t => (t.ret, t.errLen)) (exec (.build 346 2 (str "000010011100111110") (str "00")) idle) =
      some (.constructionError .len, true) := by decide
/-- The rows of 2.4 at index 1 and 2. -/
theorem test_resolve_rows :
    seen State.ret (exec (.resolve 0 2 3) idle) = some (.cmd ⟨200, 2, pid, 0b01, 3⟩) ∧
    seen State.ret (exec (.resolve 0 1 3) idle) = some (.cmd ⟨346, 1, pid, 0b00, 3⟩) ∧
    seen State.ret (exec (.resolve 2 1 3) idle) = some (.cmd ⟨50, 1, pid, 0b10, 3⟩) ∧
    seen State.ret (exec (.resolve 3 1 3) idle) = some (.constructionError .none) := by decide
/-- The first and the fourth row of 2.7. -/
theorem test_transmit_rows :
    seen (fun t => (t.st, t.trace, t.frame, t.done)) (exec (.transmit 346 2 pid 0 3) idle) =
      some (.armed, [.enter], frameS1, false) ∧
    seen (fun t => (t.st, t.trace, t.result, t.cause)) (exec (.transmit 512 0 pid 0 0) idle) =
      some (.failed, [], .constructionError, .ctrRange) := by decide
theorem test_transmit_rep_zero :
    seen (fun t => (t.st, t.trace, t.cause, t.errCtr)) (exec (.transmit 346 2 pid 0 0) idle) =
      some (.failed, [], .repZero, false) := by decide
theorem test_syncH : seen (fun t => (t.lvl, t.trace, t.pc)) (exec .syncH (critical 3 0)) =
    some (true, [.high, .sleep 4000], 1) := by decide
theorem test_syncL : seen (fun t => (t.lvl, t.trace, t.pc)) (exec .syncL (critical 3 1)) =
    some (false, [.low, .sleep 4000], 2) := by decide
theorem test_bit0H : seen (fun t => (t.lvl, t.trace, t.pc)) (exec .bit0H (critical 3 6)) =
    some (true, [.high, .sleep 642], 7) := by decide
theorem test_bit1H : seen (fun t => (t.lvl, t.trace, t.pc)) (exec .bit1H (critical 3 16)) =
    some (true, [.high, .sleep 1300], 17) := by decide
theorem test_gapL : seen (fun t => (t.lvl, t.trace, t.pc)) (exec .gapL (critical 3 7)) =
    some (false, [.low, .sleep 750], 8) := by decide
theorem test_emitSync : seen (fun t => (t.lvl, t.elapsed, t.pc)) (exec .emitSync (critical 3 0)) =
    some (false, 24000, 6) := by decide
/-- Frame position 5 of S1 is 1, position 40 is 0. -/
theorem test_emitBit :
    seen (fun t => (t.trace, t.elapsed)) (exec (.emitBit 5) (critical 3 16)) =
      some ([.high, .sleep 1300, .low, .sleep 750], 2050) ∧
    seen (fun t => t.elapsed) (exec (.emitBit 40) (critical 3 86)) = some 1392 := by decide
/-- 15 ones: 57072 + 658 x 15 (R164). -/
theorem test_emitFrame : seen (fun t => (t.elapsed, t.pc)) (exec .emitFrame (critical 3 6)) = some (66942, 88) := by
  decide +kernel
theorem test_radioEnter : seen (fun t => (t.st, t.trace, t.radioEnterReq)) (exec .radioEnter idle) =
    some (.armed, [.enter], true) := by decide
theorem test_radioRestore : seen (fun t => (t.st, t.trace, t.result, t.done, t.radioMode))
    (exec .radioRestore { during .exitMode 3 270 with radioMode := .direct }) =
      some (.idle, [.restore], .success, true, .normal) := by decide
theorem test_exclEnter : seen (fun t => (t.st, t.excl, t.pc)) (exec .exclEnter (during .armed 3 99)) =
    some (.criticalSection, true, 0) := by decide
theorem test_exclExit : seen (fun t => (t.st, t.excl, t.pc)) (exec .exclExit (critical 3 270)) =
    some (.exitMode, false, 270) := by decide
theorem test_gpioHigh : seen (fun t => (t.lvl, t.trace)) (exec .gpioHigh idle) = some (true, [.high]) := by decide
theorem test_gpioLow : seen (fun t => (t.lvl, t.trace)) (exec .gpioLow (critical 3 1)) =
    some (false, [.low]) := by decide
theorem test_sleepUs : seen (fun t => (t.elapsed, t.timer, t.trace)) (exec (.sleepUs 750) idle) =
    some (750, 0, [.sleep 750]) := by decide

/-! ### The burst -/

/-- Rows of spec/95 section 2.5. -/
theorem test_segments_of_S1 :
    [0, 1, 5, 6, 7, 16, 17, 86, 87, 88, 93, 94, 175, 176, 263, 264, 269].map (segAt frameS1) =
      [.syncH, .syncL, .syncL, .bit0H, .gapL, .bit1H, .gapL, .bit0H, .gapL, .syncH, .syncL, .bit0H, .gapL, .syncH,
        .gapL, .syncH, .syncL] := by decide

/-- 15 ones, 94, 182, 270 segments (2.6). -/
theorem test_counts_of_S1 : onesIn frameS1 = 15 ∧ nseg 1 = 94 ∧ nseg 2 = 182 ∧ nseg 3 = 270 ∧ nseg 255 = 22446 := by
  decide

/-- 114942 us for the S1 frame once (2.6). -/
theorem test_duration_of_S1 : totalTime .documented (burstKinds frameS1 1) = 114942 := by decide

/-! ### Steps of the FSM (2.7) -/

/-- The last segment, call by call (R7). -/
theorem test_step_last_segment :
    seen (fun t => (t.st, t.pc, t.trace, t.lvl, t.midSegment)) (step (critical 3 269)) =
      some (.criticalSection, 269, [.low], false, true) ∧
    seen (fun t => (t.st, t.pc, t.trace, t.elapsed, t.midSegment)) (step (midway 3 269)) =
      some (.criticalSection, 270, [.sleep 4000], 4000, false) := by decide
theorem test_step_end_of_burst :
    seen (fun t => (t.st, t.excl, t.trace)) (step (critical 3 270)) = some (.exitMode, false, [.exclOff]) := by decide
theorem test_step_ok :
    seen (fun t => (t.st, t.excl, t.pc, t.trace, t.radioMode)) (step (seeing (during .armed 3 99) [ok])) =
      some (.criticalSection, true, 0, [.exclOn], .direct) := by decide
theorem test_step_fail :
    seen (fun t => (t.st, t.result, t.cause, t.trace, t.draws)) (step (seeing (during .armed 3 99) [fail])) =
      some (.failed, .modeEntryError, .none, [], 1) := by decide
theorem test_step_failed : seen (fun t => (t.st, t.done)) (step (during .failed 3 0)) = some (.idle, true) := by decide
theorem test_step_busy :
    seen (fun t => (t.st, t.base, t.trace)) (step (seeing (during .armed 3 0) [presentCmd (cmd 0 0 1)])) =
      some (.armed, 346, []) := by decide
/-- P4: RESOLVE(RAISE, 1, 1) becomes TRANSMIT(346, 1, PID, 00, 1), frame 0x004273E056C. -/
theorem test_step_rcmd :
    seen (fun t => (t.st, t.base, t.idx, t.frame)) (step (seeing idle [presentRcmd ⟨0, 1, 1⟩])) =
      some (.armed, 346, 1, 0x004273E056C) := by decide
theorem test_step_reset :
    seen (fun t => (t.st, t.excl, t.lvl, t.trace, t.radioMode)) (step (seeing (critical 3 9) [resetting])) =
      some (.idle, false, false, [], .direct) := by decide
/-- A reset between a segment's level write and its sleep: the sleep is never issued. -/
theorem test_step_reset_midway :
    seen (fun t => (t.st, t.excl, t.lvl, t.trace, t.midSegment)) (step (seeing (midway 3 8) [resetting])) =
      some (.idle, false, false, [], false) := by decide
/-- A late `ok`, in IDLE, is ignored (R110), and RADIO_MODE stays (log 33). -/
theorem test_step_late_ok :
    seen (fun t => (t.st, t.radioMode, t.trace)) (step (seeing idle [ok])) = some (.idle, .normal, []) := by decide
/-- The host's placing: the SEG33 word of BIT1_H runs as the first operation after reset. -/
theorem test_withFetchWord :
    seen (fun t => (t.trace, t.slot)) (step (State.reset.withFetchWord 40 0x100000514)) =
      some ([.high, .sleep 1300], none) := by decide

/-! ### Witnesses: the hypotheses of each obligation are met -/

theorem witness_ResetCutsAnyCommand :
    (seeing (critical 3 9) [resetting]).slot = none ∧
    (seeing (critical 3 9) [resetting]).inputs = resetting :: [] ∧ resetting.rst = true := by decide

/-- Both clauses at their limits, for both widths. -/
theorem witness_EncodeUnsignedResult :
    511 < 2 ^ 9 ∧ 2 ^ 9 ≤ 512 ∧ 15 < 2 ^ 4 ∧ 2 ^ 4 ≤ 16 ∧
    seen State.ret (exec (.enc 15 4) idle) = some (.bits [true, true, true, true] false) ∧
    seen State.ret (exec (.enc 16 4) idle) = some (.bits [false, false, false, false] true) := by decide

theorem witness_Enc4AndEnc9Results :
    15 < 16 ∧ 16 ≤ 16 ∧ 511 < 512 ∧ 512 ≤ 512 ∧
    seen State.ret (exec (.enc4 15) idle) = some (.bits [true, true, true, true] false) ∧
    seen State.ret (exec (.enc4 16) idle) = some (.bits [false, false, false, false] true) := by decide

theorem witness_EncodeUnsignedRoundTrips :
    (4 = 4 ∨ 4 = 9) ∧ 15 < 2 ^ 4 ∧ (9 = 4 ∨ 9 = 9) ∧ 511 < 2 ^ 9 := by decide

theorem witness_EncodeUnsignedRejects :
    (encodeUnsigned 512 9).2 = true ∧ (encodeUnsigned 511 9).2 = false ∧ (encodeUnsigned 16 4).2 = true := by decide

/-- At the limits: the largest index with the largest base, and the largest base. -/
theorem witness_BuildReturnsFrame :
    (15 < 16 ∧ 496 + 15 ≤ 511 ∧ (bitsOf 17 0x139F).length + (bitsOf 2 1).length = 19) ∧
    (0 < 16 ∧ 511 + 0 ≤ 511) := by decide

theorem witness_BuiltFrameDecodes :
    15 < 16 ∧ 496 + 15 ≤ 511 ∧ (bitsOf 17 0x139F).length = 17 ∧ (bitsOf 2 1).length = 2 := by decide

/-- One failing check each: index 16, sum 512, length 42. -/
theorem witness_BuildFailsClosed :
    (16 ≤ 16 ∨ 512 ≤ 0 + 16 ∨ (bitsOf 17 0).length + (bitsOf 2 0).length ≠ 19) ∧
    Cause.idxRange = (if 16 ≤ 16 then .idxRange else if 512 ≤ 0 + 16 then .ctrRange else .len) ∧
    (16 ≤ 15 ∨ 512 ≤ 497 + 15 ∨ (bitsOf 17 0).length + (bitsOf 2 0).length ≠ 19) ∧
    Cause.ctrRange = (if 16 ≤ 15 then .idxRange else if 512 ≤ 497 + 15 then .ctrRange else .len) ∧
    (16 ≤ 15 ∨ 512 ≤ 0 + 15 ∨ (bitsOf 18 0).length + (bitsOf 2 0).length ≠ 19) ∧
    Cause.len = (if 16 ≤ 15 then .idxRange else if 512 ≤ 0 + 15 then .ctrRange else .len) := by decide

theorem witness_BuildIsInjective :
    ∃ t t' f, exec (.build 346 2 (bitsOf 17 0x139F) (bitsOf 2 0)) idle = .next t ∧
      exec (.build 346 2 (bitsOf 17 0x139F) (bitsOf 2 0)) (critical 3 9) = .next t' ∧
      t.ret = .frame f ∧ t'.ret = .frame f ∧ (bitsOf 17 0x139F).length = 17 ∧ (bitsOf 2 0).length = 2 :=
  ⟨_, _, frameS1, rfl, rfl, by decide, by decide, by decide, by decide⟩

/-- HAS_RESOLVE, with an index that is 1 and one that is not. -/
theorem witness_ResolveMapsActions : idle.cfg.hasResolve = true ∧ 1#4 = 1#4 ∧ 0#4 ≠ 1#4 ∧ 2#4 ≠ 1#4 := by decide

/-- `idle` with no RESOLVE built. -/
def noResolve : State := { idle with cfg := { cfg with hasResolve := false } }

theorem witness_ResolveAbsentIsRefused : noResolve.cfg.hasResolve = false := by decide

theorem witness_ResolvedCommandIsAccepted_valid :
    (seeing idle [presentRcmd ⟨0, 1, 1⟩]).slot = none ∧ (seeing idle [presentRcmd ⟨0, 1, 1⟩]).st = .idle ∧
    (presentRcmd ⟨0, 1, 1⟩).rst = false ∧ (presentRcmd ⟨0, 1, 1⟩).cmd = some (.rcmd ⟨0, 1, 1⟩) ∧
    exec (.resolve 0 1 1) (seeing idle [presentRcmd ⟨0, 1, 1⟩]) =
      .next { seeing idle [presentRcmd ⟨0, 1, 1⟩] with ret := .cmd (cmd 346 1 1) } ∧
    cmdValid (cmd 346 1 1) :=
  ⟨rfl, rfl, rfl, rfl, rfl, by unfold cmdValid; decide⟩

/-- The same with a repeat count of 0, with the fourth action code, and with no RESOLVE built. -/
theorem witness_ResolvedCommandIsAccepted_refused :
    (exec (.resolve 0 1 0) (seeing idle [presentRcmd ⟨0, 1, 0⟩]) =
      .next { seeing idle [presentRcmd ⟨0, 1, 0⟩] with ret := .cmd (cmd 346 1 0) } ∧ ¬ cmdValid (cmd 346 1 0)) ∧
    ((seeing idle [presentRcmd ⟨3, 1, 1⟩]).cfg.hasResolve = true ∧ (RCmd.mk 3 1 1).action = 3#2) ∧
    (seeing noResolve [presentRcmd ⟨0, 1, 1⟩]).cfg.hasResolve = false :=
  ⟨⟨rfl, by unfold cmdValid; decide⟩, by decide, rfl⟩

/-- The largest sums and the smallest count that are valid. -/
theorem witness_TransmitAcceptsValidCommand :
    idle.st = .idle ∧ cmdValid (cmd 496 15 1) ∧ cmdValid (cmd 511 0 255) := by unfold cmdValid; decide

/-- The smallest sum and the one count that are not. -/
theorem witness_TransmitRejectsInvalidCommand :
    idle.st = .idle ∧ ¬ cmdValid (cmd 497 15 1) ∧ ¬ cmdValid (cmd 0 0 0) ∧ ¬ cmdValid (cmd 512 0 0) := by
  unfold cmdValid; decide

theorem witness_TransmitNotAcceptedWhileBusy :
    (during .armed 3 0).st ≠ .idle ∧ (critical 3 9).st ≠ .idle ∧ (during .exitMode 3 270).st ≠ .idle ∧
    (during .failed 3 0).st ≠ .idle := by decide

/-- A bit that is 1 and a bit that is 0, at the ends of the frame. -/
theorem witness_EmitBitIsHighThenGap :
    1300#32 = (if memReadFrame (critical 3 16).frame 5 then (critical 3 16).cfg.tt.one else (critical 3 16).cfg.tt.zero) ∧
    642#32 = (if memReadFrame (critical 3 16).frame 0 then (critical 3 16).cfg.tt.one else (critical 3 16).cfg.tt.zero) ∧
    642#32 = (if memReadFrame (critical 3 16).frame 40 then (critical 3 16).cfg.tt.one else (critical 3 16).cfg.tt.zero) := by
  decide

theorem witness_SystemOperationsTakeTheirArcs :
    (during .exitMode 3 270).restoreHonoured = true ∧
    ({ during .exitMode 3 270 with restoreHonoured := false } : State).restoreHonoured = false := by decide

theorem witness_DecodeOfEncode :
    TimingTable.documented.distinct = true ∧ Instr.wf (.build 346 2 (bitsOf 17 0x139F) (bitsOf 2 0)) = true := by decide

theorem witness_EncodeOfDecode :
    (∀ w, Format.cmd ≠ .func w) ∧
    decode .documented ⟨.cmd, bitsOf 63 0x000000F8F84E7C03⟩ = .ok (.transmit 497 15 pid 0 3) :=
  ⟨by simp, rfl⟩

theorem witness_DecodedOperationsAreWellFormed :
    decode .documented ⟨.func 9, bitsOf 9 348⟩ = .ok (.enc 348 9) := rfl

/-- A 1 at each end of the two reserved ranges, and a SEG33 word that is none of the five. -/
theorem witness_IllegalWordsFault :
    (∀ i ∈ [0, 2, 24, 29], (i < 3 ∨ (24 ≤ i ∧ i < 30)) ∧
      ((List.replicate 41 false).set i true)[i]? = some true ∧
      ((List.replicate 41 false).set i true).length = 41) ∧
    (presenting .frame41 ((List.replicate 41 false).set 29 true)).slot =
      some ⟨.frame41, (List.replicate 41 false).set 29 true⟩ ∧
    (List.replicate 33 true).length = 33 ∧
    (∀ k ∈ [SegKind.syncH, .syncL, .bit0H, .bit1H, .gapL], List.replicate 33 true ≠ segWord cfg.tt k) := by decide

theorem witness_StepRunsPresentedOperation :
    (presenting .us32 (bitsOf 32 750)).slot = some ⟨.us32, bitsOf 32 750⟩ ∧
    decode (presenting .us32 (bitsOf 32 750)).cfg.tt ⟨.us32, bitsOf 32 750⟩ = .ok (.sleepUs 750) :=
  ⟨rfl, rfl⟩

/-- The hypotheses all rows of the table share, and each row's own. -/
theorem witness_FsmFollowsTransitionTable_idle :
    ((seeing idle [presentCmd (cmd 496 15 1)]).slot = none ∧ (seeing idle [presentCmd (cmd 496 15 1)]).st = .idle ∧
      (presentCmd (cmd 496 15 1)).rst = false ∧
      (presentCmd (cmd 496 15 1)).cmd = some (.cmd (cmd 496 15 1)) ∧ cmdValid (cmd 496 15 1)) ∧
    ((presentCmd (cmd 497 15 1)).cmd = some (.cmd (cmd 497 15 1)) ∧ ¬ cmdValid (cmd 497 15 1)) ∧
    PortSample.quiet.cmd = none := by unfold cmdValid; decide

theorem witness_FsmFollowsTransitionTable_armed :
    ((seeing (during .armed 3 0) [ok]).st = .armed ∧ ok.rst = false ∧ ok.enterOk = true ∧ ok.enterFail = false) ∧
    (fail.rst = false ∧ fail.enterOk = false ∧ fail.enterFail = true) ∧
    (PortSample.quiet.enterOk = false ∧ PortSample.quiet.enterFail = false) := by decide

/-- `pc` at 0, NSEG - 1 (at the start and in the middle of the segment), NSEG and NSEG + 1; EXIT_MODE; FAILED. -/
theorem witness_FsmFollowsTransitionTable_burst :
    ((critical 3 0).st = .criticalSection ∧ (critical 3 0).slot = none ∧ (critical 3 0).pc.toNat < nseg (critical 3 0).rep) ∧
    ((critical 3 269).pc.toNat < nseg (critical 3 269).rep ∧ (critical 3 269).midSegment = false) ∧
    ((midway 3 269).st = .criticalSection ∧ (midway 3 269).pc.toNat < nseg (midway 3 269).rep ∧
      (midway 3 269).midSegment = true) ∧
    (critical 3 270).pc.toNat = nseg (critical 3 270).rep ∧
    nseg (critical 3 271).rep < (critical 3 271).pc.toNat ∧
    (during .exitMode 3 270).st = .exitMode ∧ (during .failed 3 0).st = .failed := by decide

theorem witness_SegmentTakesTwoCalls :
    (critical 3 269).slot = none ∧ (critical 3 269).st = .criticalSection ∧
    (critical 3 269).pc.toNat < nseg (critical 3 269).rep ∧ (critical 3 269).midSegment = false ∧
    noReset (critical 3 269).inputs := by unfold noReset; decide

theorem witness_BothAnswersAreRefused :
    (seeing (during .armed 3 0) [both]).slot = none ∧ (seeing (during .armed 3 0) [both]).st = .armed ∧
    both.rst = false ∧ both.enterOk = true ∧ both.enterFail = true := by decide

theorem witness_PortsIgnoredWhereNotRead :
    (critical 3 9).slot = none ∧ (critical 3 9).st ≠ .idle ∧ (critical 3 9).st ≠ .armed := by decide

theorem witness_OutputPortsShowRegisters : idle.st = .idle ∧ (critical 3 9).st ≠ .idle := by decide

/-- Positions at the ends of each range. -/
theorem witness_SegmentAtEachPosition :
    2 < 3 ∧ 40 < 41 ∧ (6 < nseg 1 ∧ 6 ≤ 6 % 88) ∧ (87 < nseg 1 ∧ 6 ≤ 87 % 88) ∧ (22439 < nseg 255 ∧ 6 ≤ 22439 % 88) := by
  decide

theorem witness_BurstDuration : reservedZero frameS1 := by
  intro i h
  have : i < 30 := by omega
  revert h; revert i; decide

theorem witness_CommandRunsToSuccess :
    (seeing idle [presentCmd (cmd 346 2 1), .quiet, ok]).slot = none ∧
    (seeing idle [presentCmd (cmd 346 2 1), .quiet, ok]).st = .idle ∧ cmdValid (cmd 346 2 1) ∧
    (seeing idle [presentCmd (cmd 346 2 1), .quiet, ok]).inputs =
      presentCmd (cmd 346 2 1) :: ([.quiet] ++ ok :: []) ∧
    (presentCmd (cmd 346 2 1)).rst = false ∧ (presentCmd (cmd 346 2 1)).cmd = some (.cmd (cmd 346 2 1)) ∧
    noAnswer [.quiet] ∧ ok.rst = false ∧ ok.enterOk = true ∧ ok.enterFail = false ∧ noReset [] := by
  unfold cmdValid noAnswer noReset; decide

theorem witness_FailedEntryEmitsNothing :
    (seeing idle [presentCmd (cmd 346 2 1), .quiet, fail, .quiet]).slot = none ∧
    (seeing idle [presentCmd (cmd 346 2 1), .quiet, fail, .quiet]).st = .idle ∧ cmdValid (cmd 346 2 1) ∧
    (presentCmd (cmd 346 2 1)).rst = false ∧ (presentCmd (cmd 346 2 1)).cmd = some (.cmd (cmd 346 2 1)) ∧
    (seeing idle [presentCmd (cmd 346 2 1), .quiet, fail, .quiet]).inputs =
      presentCmd (cmd 346 2 1) :: ([.quiet] ++ fail :: [.quiet]) ∧
    noAnswer [.quiet] ∧ fail.rst = false ∧ fail.enterOk = false ∧ fail.enterFail = true ∧ noReset [.quiet] := by
  unfold cmdValid noAnswer noReset; decide

theorem witness_RejectedCommandMakesNoCall :
    (seeing idle [presentCmd (cmd 497 15 3), ok]).slot = none ∧ (seeing idle [presentCmd (cmd 497 15 3), ok]).st = .idle ∧
    ¬ cmdValid (cmd 497 15 3) ∧ (seeing idle [presentCmd (cmd 497 15 3), ok]).inputs = presentCmd (cmd 497 15 3) :: [ok] ∧
    (presentCmd (cmd 497 15 3)).rst = false ∧ (presentCmd (cmd 497 15 3)).cmd = some (.cmd (cmd 497 15 3)) ∧
    noReset [ok] := by
  unfold cmdValid noReset; decide

theorem witness_UnansweredStaysArmed :
    (seeing (during .armed 3 0) [.quiet, presentCmd (cmd 0 0 1)]).slot = none ∧
    (seeing (during .armed 3 0) [.quiet, presentCmd (cmd 0 0 1)]).st = .armed ∧
    noAnswer (seeing (during .armed 3 0) [.quiet, presentCmd (cmd 0 0 1)]).inputs := by
  unfold noAnswer; decide

/-- From the first segment, from the middle of the last, and from the end of the burst. -/
theorem witness_CriticalSectionAlwaysEnds :
    ((critical 3 0).slot = none ∧ (critical 3 0).st = .criticalSection ∧
      (critical 3 0).pc.toNat ≤ nseg (critical 3 0).rep ∧ (critical 3 0).midSegment = false ∧
      noReset (critical 3 0).inputs) ∧
    ((midway 3 269).st = .criticalSection ∧ (midway 3 269).pc.toNat < nseg (midway 3 269).rep ∧
      (midway 3 269).midSegment = true) ∧
    ((critical 3 270).pc.toNat ≤ nseg (critical 3 270).rep ∧ (critical 3 270).midSegment = false) := by
  unfold noReset; decide

/-- Two blocks with different histories. -/
theorem witness_TraceIsFunctionOfInputs :
    (seeing idle [presentCmd (cmd 346 2 1), ok]).slot = none ∧
    (seeing (during .idle 3 270) [presentCmd (cmd 346 2 1), ok]).slot = none ∧
    (seeing idle [presentCmd (cmd 346 2 1), ok]).st = .idle ∧
    (seeing (during .idle 3 270) [presentCmd (cmd 346 2 1), ok]).st = .idle ∧
    (seeing idle [presentCmd (cmd 346 2 1), ok]).cfg = (seeing (during .idle 3 270) [presentCmd (cmd 346 2 1), ok]).cfg ∧
    (seeing idle [presentCmd (cmd 346 2 1), ok]).inputs =
      (seeing (during .idle 3 270) [presentCmd (cmd 346 2 1), ok]).inputs ∧
    (seeing idle [presentCmd (cmd 346 2 1), ok]).pc ≠ (seeing (during .idle 3 270) [presentCmd (cmd 346 2 1), ok]).pc := by
  decide

/-- The invariant in the middle of a segment, and a step from there. -/
theorem witness_EveryStepKeepsInvariant : SequencerInv (midway 3 9) ∧ ∃ t, step (midway 3 9) = .next t :=
  ⟨{ slotEmpty := by decide
     exclIff := by decide
     idleLow := by decide
     levelAlternates := by decide
     levelOfSegment := by decide
     pcBound := by decide
     repPositive := by decide
     frameBuilt := by decide
     radioDirect := by decide
     doneIdle := by decide
     noIdxErr := by decide
     noLenErr := by decide
     timerStopped := by decide
     frameReserved := witness_BurstDuration }, _, rfl⟩

theorem witness_CallsStandOnTheirArcs :
    ((critical 3 9).slot = none ∧ ∃ t, step (critical 3 9) = .next t) ∧
    (midway 3 9).slot = none ∧ ∃ t, step (midway 3 9) = .next t :=
  ⟨⟨rfl, _, rfl⟩, rfl, _, rfl⟩

theorem witness_TimeAdvancesBySleepsOnly :
    (∃ t, step (critical 3 9) = .next t) ∧ ∃ t, step (presenting .us32 (bitsOf 32 750)) = .next t :=
  ⟨⟨_, rfl⟩, _, rfl⟩

theorem witness_ConfigurationIsReadOnly : ∃ t, step (critical 3 9) = .next t := ⟨_, rfl⟩

theorem witness_OperandsHeldDuringCommand :
    ((critical 3 9).slot = none ∧ (critical 3 9).st ≠ .idle ∧ (samplePorts (critical 3 9)).rst = false ∧
      ∃ t, step (critical 3 9) = .next t) ∧
    (∃ t, exec (.transmit 0 0 pid 0 1) (critical 3 9) = .next t) ∧
    ∃ t, exec (.build 346 2 (bitsOf 17 0) (bitsOf 2 0)) (critical 3 9) = .next t :=
  ⟨⟨rfl, by decide, rfl, _, rfl⟩, ⟨_, rfl⟩, _, rfl⟩

end Sys2Proof.Machine.Tests
end

section
/-! SUPPORT. What one transition of the FSM can do: the rows of spec/42_waveform_sequencer.md R93 as named arcs, each with its
guard and its next state, and the lemma that every answered transition is one of them or a reset. -/

namespace Sys2Proof.Machine

/-- The command that the sample presents in a state: a CMD, or what RESOLVE makes of an RCMD where it is built (R26, R83). -/
def presents (p : PortSample) (s : State) (c : Cmd) : Prop :=
  p.cmd = some (.cmd c) ∨ ∃ r, p.cmd = some (.rcmd r) ∧ s.cfg.hasResolve = true ∧ resolveCmd s.cfg r = some c

/-- The arcs of R93, a wait where no row applies among them: `FsmArc p s t` leads from `s` to `t` on a sample `p` without
reset. -/
inductive FsmArc (p : PortSample) (s : State) : State → Prop
  | idleWait (hst : s.st = .idle) : FsmArc p s s
  | accept (hst : s.st = .idle) {c : Cmd} (hc : presents p s c)
      (hvalid : validationCause (cmdChecks c) c.rep = none) :
      FsmArc p s (issueEnter { writeFlags (cmdChecks c) (latchOperands c s) with frame := cmdFrame c })
  | rejectCommand (hst : s.st = .idle) {c : Cmd} (hc : presents p s c) {e : Cause}
      (hcause : validationCause (cmdChecks c) c.rep = some e) :
      FsmArc p s (raiseError .constructionError e (writeFlags (cmdChecks c) (latchOperands c s)))
  | rejectAction (hst : s.st = .idle) {r : RCmd} (hr : p.cmd = some (.rcmd r)) (hres : resolveCmd s.cfg r = none) :
      FsmArc p s (raiseError .constructionError .none { s with done := false })
  | armedWait (hst : s.st = .armed) (hok : p.enterOk = false) (hfail : p.enterFail = false) : FsmArc p s s
  | answeredOk (hst : s.st = .armed) (hok : p.enterOk = true) (hfail : p.enterFail = false) :
      FsmArc p s (enterCritical (answerOk s))
  | answeredFail (hst : s.st = .armed) (hok : p.enterOk = false) (hfail : p.enterFail = true) :
      FsmArc p s (raiseError .modeEntryError .none (answerFail s))
  | levelWrite (hst : s.st = .criticalSection) (hpc : s.pc.toNat < nseg s.rep) (hmid : s.midSegment = false) :
      FsmArc p s (openSegment (segAt s.frame s.pc.toNat) s)
  | segmentEnd (hst : s.st = .criticalSection) (hpc : s.pc.toNat < nseg s.rep) (hmid : s.midSegment = true) :
      FsmArc p s (closeSegment (segAt s.frame s.pc.toNat) s)
  | burstEnd (hst : s.st = .criticalSection) (hpc : s.pc.toNat = nseg s.rep) : FsmArc p s (leaveCritical s)
  | pastBurst (hst : s.st = .criticalSection) (hpc : nseg s.rep < s.pc.toNat) : FsmArc p s s
  | restore (hst : s.st = .exitMode) : FsmArc p s (issueRestore s)
  | finish (hst : s.st = .failed) : FsmArc p s (finishFailed s)

variable {p : PortSample} {s t : State}

/-- A presented command takes one of the two arcs out of IDLE (R93, rows 1 and 2). -/
theorem fsmArc_acceptCommand (hst : s.st = .idle) {c : Cmd} (hc : presents p s c) : FsmArc p s (acceptCommand c s) := by
  obtain ⟨e, hcause, heq⟩ | ⟨hvalid, heq⟩ := acceptCommand_cases c s
  · exact heq ▸ .rejectCommand hst hc hcause
  · exact heq ▸ .accept hst hc hvalid

/-- IDLE's transitions are its arcs. -/
theorem fsmArc_of_stepIdle (hst : s.st = .idle) (h : stepIdle p s = .next t) : FsmArc p s t := by
  unfold stepIdle at h
  split at h
  next => cases h; exact .idleWait hst
  next c hcmd =>
    simp only [exec, execTransmit, hst, if_true] at h
    cases h
    exact fsmArc_acceptCommand hst (.inl hcmd)
  next r hcmd =>
    split at h
    next hbuilt =>
      cases h
      unfold acceptResolved
      split
      next c hres => exact fsmArc_acceptCommand hst (.inr ⟨r, hcmd, hbuilt, hres⟩)
      next hres => exact .rejectAction hst hcmd hres
    next => cases h; exact .idleWait hst

/-- ARMED's transitions are its arcs; both answers at once have none (log 8). -/
theorem fsmArc_of_stepArmed (hst : s.st = .armed) (h : stepArmed p s = .next t) : FsmArc p s t := by
  unfold stepArmed at h
  split at h
  next hok hfail => cases h; exact .armedWait hst hok hfail
  next hok hfail => cases h; exact .answeredOk hst hok hfail
  next hok hfail => cases h; exact .answeredFail hst hok hfail
  next => cases h

/-- CRITICAL_SECTION's transitions are its arcs. -/
theorem fsmArc_of_stepCritical (hst : s.st = .criticalSection) (h : stepCritical s = .next t) : FsmArc p s t := by
  unfold stepCritical at h
  split at h
  next hpc =>
    split at h
    next hmid => cases h; exact .segmentEnd hst hpc hmid
    next hmid => cases h; exact .levelWrite hst hpc (by simpa using hmid)
  next hpc =>
    split at h
    next heq => cases h; exact .burstEnd hst heq
    next hne => cases h; exact .pastBurst hst (by omega)

/-- An answered transition of the FSM is a reset or an arc of R93. -/
theorem fsmStep_cases (h : fsmStep p s = .next t) :
    (p.rst = true ∧ t = warmReset s) ∨ (p.rst = false ∧ FsmArc p s t) := by
  unfold fsmStep at h
  split at h
  next hrst => cases h; exact .inl ⟨hrst, rfl⟩
  next hrst =>
    refine .inr ⟨by simpa using hrst, ?_⟩
    split at h
    next hst => exact fsmArc_of_stepIdle hst h
    next hst => exact fsmArc_of_stepArmed hst h
    next hst => exact fsmArc_of_stepCritical hst h
    next hst => cases h; exact .restore hst
    next hst => cases h; exact .finish hst

/-- Inversion of a step of the FSM: the pulses fall and the sample goes past, then a reset or an arc of R93. -/
theorem step_cases_of_empty (hslot : s.slot = none) (h : step s = .next t) :
    ((samplePorts s).rst = true ∧ t = warmReset (dropSample (clearPulses s))) ∨
      ((samplePorts s).rst = false ∧ FsmArc (samplePorts s) (dropSample (clearPulses s)) t) :=
  fsmStep_cases (step_of_empty hslot ▸ h)

end Sys2Proof.Machine
end

section
/-! SUPPORT. The two steps of a segment (R7, R93; log 25) and the segment operation by itself (R98 to R102). -/

namespace Sys2Proof.Machine

variable {s t : State}

/-- The operation of a segment kind runs that segment (R55, R98 to R102). -/
theorem exec_segKind_instr (k : SegKind) (s : State) : exec k.instr s = .next (runSegment k s) := by
  cases k <;> rfl

/-- A run whose first step is answered goes on from the answer. -/
theorem runSteps_succ_of_step (n : Nat) (h : step s = .next t) : runSteps (n + 1) s = runSteps n t := by
  simp [runSteps, h]

/-- Without a reset to come, the sample of this step asserts none. -/
theorem samplePorts_rst_of_noReset (h : noReset s.inputs) : (samplePorts s).rst = false := by
  unfold samplePorts
  split
  next p ps heq => exact h p (by simp [heq])
  next => rfl

theorem noReset_tail {ps : List PortSample} (h : noReset ps) : noReset ps.tail :=
  fun p hp => h p (List.mem_of_mem_tail hp)

/-- A step of the FSM in CRITICAL_SECTION, with no reset in its sample. -/
theorem step_of_criticalSection (hslot : s.slot = none) (hst : s.st = .criticalSection)
    (hrst : (samplePorts s).rst = false) : step s = stepCritical (dropSample (clearPulses s)) := by
  simp [step_of_empty hslot, fsmStep, hrst, hst]

/-- At the start of a segment the step is its level write. -/
theorem step_at_segment_start (hslot : s.slot = none) (hst : s.st = .criticalSection)
    (hrst : (samplePorts s).rst = false) (hpc : s.pc.toNat < nseg s.rep) (hmid : s.midSegment = false) :
    step s = .next (openSegment (segAt s.frame s.pc.toNat) (dropSample (clearPulses s))) := by
  simp [step_of_criticalSection hslot hst hrst, stepCritical, hpc, hmid]

/-- In the middle of a segment the step is its sleep. -/
theorem step_at_segment_middle (hslot : s.slot = none) (hst : s.st = .criticalSection)
    (hrst : (samplePorts s).rst = false) (hpc : s.pc.toNat < nseg s.rep) (hmid : s.midSegment = true) :
    step s = .next (closeSegment (segAt s.frame s.pc.toNat) (dropSample (clearPulses s))) := by
  simp [step_of_criticalSection hslot hst hrst, stepCritical, hpc, hmid]

/-- What a step does before the FSM's transition commutes with the level write. -/
theorem dropSample_clearPulses_openSegment (k : SegKind) (s : State) :
    dropSample (clearPulses (openSegment k s)) = openSegment k (dropSample (clearPulses s)) := rfl

/-- Two steps' worth of pulses and samples gone. -/
theorem dropSample_clearPulses_twice (s : State) :
    dropSample (clearPulses (dropSample (clearPulses s))) =
      { s with radioEnterReq := false, radioRestoreReq := false, inputs := s.inputs.drop 2 } := by
  have hdrop : s.inputs.tail.tail = s.inputs.drop 2 := by
    rw [← List.drop_one, ← List.drop_one, List.drop_drop]
  simp [dropSample, clearPulses, hdrop]

end Sys2Proof.Machine
end

section
/-! THEOREM. The outbound calls of one step, and the two calls of a segment. -/

namespace Sys2Proof.Machine

/-- Settles O48, by inversion of the step: a reset and the arcs without a call append nothing, each other arc its one call. -/
theorem callsStandOnTheirArcs : Obligations.CallsStandOnTheirArcs := by
  unfold Obligations.CallsStandOnTheirArcs
  intro s t hslot hstep
  obtain ⟨hrst, rfl⟩ | ⟨-, harc⟩ := step_cases_of_empty hslot hstep
  · exact ⟨[], by simp, .inl rfl, fun _ => .inr ⟨rfl, hrst⟩⟩
  · cases harc with
    | idleWait | rejectCommand | rejectAction | armedWait | answeredFail | pastBurst | finish =>
      exact ⟨[], by simp, .inl rfl, fun _ => .inl (by simp)⟩
    | accept hst => exact ⟨[.enter], by simp, by simpa using hst, fun _ => .inl (by simp)⟩
    | answeredOk hst => exact ⟨[.exclOn], by simp, by simpa using hst, fun _ => .inl (by simp)⟩
    | levelWrite hst hpc hmid =>
      refine ⟨[if (segAt s.frame s.pc.toNat).level then .high else .low], by simp,
        .inr (.inr (.inr (.inl (by simpa using ⟨hst, hmid⟩)))), fun hno => ?_⟩
      split at hno <;> simp [Event.isLevelWrite] at hno
    | segmentEnd hst hpc hmid =>
      exact ⟨[.sleep (s.cfg.tt.entry (segAt s.frame s.pc.toNat))], by simp, by simpa using ⟨hst, hmid⟩,
        fun _ => .inl (by simp)⟩
    | burstEnd hst hpc => exact ⟨[.exclOff], by simp, by simpa using ⟨hst, hpc⟩, fun _ => .inl (by simp)⟩
    | restore hst => exact ⟨[.restore], by simp, by simpa using hst, fun _ => .inl (by simp)⟩

/-- Settles O52: the level write, then the sleep, which together are the segment. -/
theorem segmentTakesTwoCalls : Obligations.SegmentTakesTwoCalls := by
  unfold Obligations.SegmentTakesTwoCalls
  intro s hslot hst hpc hmid hno
  let k := segAt s.frame s.pc.toNat
  let u := dropSample (clearPulses s)
  have hopen : step s = .next (openSegment k u) :=
    step_at_segment_start hslot hst (samplePorts_rst_of_noReset hno) hpc hmid
  have hrst : (samplePorts (openSegment k u)).rst = false :=
    samplePorts_rst_of_noReset (by simpa [u] using noReset_tail hno)
  have hclose : step (openSegment k u) = .next (closeSegment k (openSegment k (dropSample (clearPulses u)))) := by
    have hmiddle := step_at_segment_middle (s := openSegment k u) (by simpa [u] using hslot) (by simpa [u] using hst)
      hrst (by simpa [u] using hpc) (by simp)
    simpa [u, k, dropSample_clearPulses_openSegment] using hmiddle
  calc runSteps 2 s
      = .next (closeSegment k (openSegment k (dropSample (clearPulses u)))) := by
        rw [runSteps_succ_of_step 1 hopen, runSteps_succ_of_step 0 hclose, runSteps]
    _ = .next (runSegment k (dropSample (clearPulses u))) := by
        rw [closeSegment_openSegment k _ (by simpa [u] using hmid)]
    _ = exec k.instr { s with radioEnterReq := false, radioRestoreReq := false, inputs := s.inputs.drop 2 } := by
        rw [exec_segKind_instr, dropSample_clearPulses_twice]

end Sys2Proof.Machine
end

section
/-! SUPPORT. The frame that acceptance builds is R46's layout of the command's fields, and its reserved positions are 0
(spec/30_encoding.md R46, R48, spec/41_frame_builder.md R77). -/

namespace Sys2Proof

theorem valOf_append (as bs : Bits) : valOf (as ++ bs) = valOf as * 2 ^ bs.length + valOf bs := by
  induction as with
  | nil => simp [valOf]
  | cons a as ih => simp only [List.cons_append, valOf, ih, List.length_append]; ring

end Sys2Proof

namespace Sys2Proof.Machine

/-- Concatenation in numbers: the left part is shifted past the right one. -/
theorem toNat_append_eq_add {m n : Nat} (x : BitVec m) (y : BitVec n) :
    (x ++ y).toNat = x.toNat * 2 ^ n + y.toNat := by
  rw [BitVec.toNat_append, ← Nat.shiftLeft_add_eq_or_of_lt y.isLt, Nat.shiftLeft_eq]

/-- The number that R46's layout spells. -/
theorem toNat_frameOfFields (d : BitVec 4) (p : BitVec 17) (c : BitVec 9) (a : BitVec 2) :
    (frameOfFields d p c a).toNat = ((d.toNat * 2 ^ 17 + p.toNat) * 2 ^ 15 + c.toNat) * 2 ^ 2 + a.toNat := by
  rw [frameOfFields, toNat_append_eq_add]
  simp only [toNat_append_eq_add, BitVec.toNat_ofNat]
  omega

/-- The number that BUILD's string spells, with index and counter in range (R77). -/
theorem valOf_frameString {base idx : Nat} {pid act : Bits} (hidx : idx < 2 ^ 4) (hctr : base + idx < 2 ^ 9)
    (hact : act.length = 2) (hpid : pid.length = 17) :
    valOf (frameString base idx pid act) =
      ((idx * 2 ^ 17 + valOf pid) * 2 ^ 15 + (base + idx)) * 2 ^ 2 + valOf act := by
  simp [frameString, encodeUnsigned_of_lt hidx, counterValue, encodeUnsigned_of_lt hctr, valOf_append,
    valOf_bitsOf, valOf, hact, hpid]
  omega

/-- The register FRAME of an accepted command holds R46's frame of its fields (R76, R77). -/
theorem cmdFrame_eq_frameOfFields {c : Cmd} (hc : c.base.toNat + c.idx.toNat ≤ 511) :
    cmdFrame c = frameOfFields c.idx c.pid (BitVec.ofNat 9 (c.base.toNat + c.idx.toNat)) c.act := by
  have hctr : c.base.toNat + c.idx.toNat < 2 ^ 9 := by omega
  apply BitVec.eq_of_toNat_eq
  rw [toNat_frameOfFields, cmdFrame, frameRegister, BitVec.toNat_ofNat, valOf_frameString c.idx.isLt hctr
    (bitsOf_length ..) (bitsOf_length ..), valOf_bitsOf, valOf_bitsOf, BitVec.toNat_ofNat, Nat.mod_eq_of_lt hctr,
    Nat.mod_eq_of_lt c.pid.isLt, Nat.mod_eq_of_lt c.act.isLt]
  omega

/-- The reserved positions of R46's layout hold 0 (R48). -/
theorem reservedZero_frameOfFields (d : BitVec 4) (p : BitVec 17) (c : BitVec 9) (a : BitVec 2) :
    reservedZero (frameOfFields d p c a) := by
  intro i hi
  unfold memReadFrame frameOfFields
  simp only [BitVec.getLsbD_append, BitVec.getLsbD_zero]
  rcases hi with hi | ⟨hlo, hhi⟩
  · have h34 : ¬ 40 - i - 2 - 9 - 6 - 17 < 4 := by omega
    have h17 : ¬ 40 - i - 2 - 9 - 6 < 17 := by omega
    have h6 : ¬ 40 - i - 2 - 9 < 6 := by omega
    have h9 : ¬ 40 - i - 2 < 9 := by omega
    have h2 : ¬ 40 - i < 2 := by omega
    simp [h34, h17, h6, h9, h2]
  · have h6 : 40 - i - 2 - 9 < 6 := by omega
    have h9 : ¬ 40 - i - 2 < 9 := by omega
    have h2 : ¬ 40 - i < 2 := by omega
    simp [h6, h9, h2]

/-- The reserved positions of an accepted command's FRAME hold 0. -/
theorem reservedZero_cmdFrame {c : Cmd} (hc : c.base.toNat + c.idx.toNat ≤ 511) : reservedZero (cmdFrame c) := by
  rw [cmdFrame_eq_frameOfFields hc]
  exact reservedZero_frameOfFields _ _ _ _

theorem reservedZero_zero : reservedZero 0 := by
  intro i _
  simp [memReadFrame]

end Sys2Proof.Machine
end

section
/-! SUPPORT. The invariant of the sequencer written by FSM state: what holds in every state alike, and what each state of
spec/10_state.md R13 adds. Each arc of spec/42_waveform_sequencer.md R93 then leads from one state's clauses to another's. -/

namespace Sys2Proof.Machine

/-- The clauses of the invariant that do not depend on ST. -/
structure SteadyClauses (s : State) : Prop where
  slotEmpty : s.slot = none
  noIdxErr : s.errIdx = false
  noLenErr : s.errLen = false
  timerStopped : s.timer = 0
  frameReserved : reservedZero s.frame

/-- No burst is under way: EXCL and the line are low and no segment is open. -/
structure LineAtRest (s : State) : Prop where
  exclLow : s.excl = false
  lineLow : s.lvl = false
  noSegment : s.midSegment = false

/-- Where a burst stands: at most at its end, its level the last segment's, or its own inside a segment. -/
structure BurstPlace (s : State) : Prop where
  exclHigh : s.excl = true
  pcBound : s.pc.toNat ≤ nseg s.rep
  levelBetween : s.midSegment = false → s.lvl = decide (s.pc.toNat % 2 = 1)
  levelInside : s.midSegment = true → s.pc.toNat < nseg s.rep ∧ s.lvl = (segAt s.frame s.pc.toNat).level

/-- The registers hold a command past validation, and FRAME its frame (R12, R92). -/
def HoldsCommand (s : State) : Prop :=
  s.rep ≠ 0#8 ∧ s.base.toNat + s.idx.toNat ≤ 511 ∧
    s.frame = frameOfFields s.idx s.pid (BitVec.ofNat 9 (s.base.toNat + s.idx.toNat)) s.act

/-- The clauses of the invariant in each state of the FSM. -/
def ClausesIn (s : State) : FsmState → Prop
  | .idle => LineAtRest s
  | .failed => s.done = false ∧ LineAtRest s
  | .armed => s.done = false ∧ LineAtRest s ∧ HoldsCommand s
  | .criticalSection => s.done = false ∧ BurstPlace s ∧ HoldsCommand s ∧ s.radioMode = .direct
  | .exitMode => s.done = false ∧ LineAtRest s ∧ HoldsCommand s ∧ s.radioMode = .direct

variable {s : State}

theorem SequencerInv.steady (h : SequencerInv s) : SteadyClauses s :=
  ⟨h.slotEmpty, h.noIdxErr, h.noLenErr, h.timerStopped, h.frameReserved⟩

theorem SequencerInv.lineAtRest (h : SequencerInv s) (hst : s.st ≠ .criticalSection) : LineAtRest s where
  exclLow := Bool.eq_false_iff.mpr fun hexcl => hst (h.exclIff.mp hexcl)
  lineLow := h.idleLow hst
  noSegment := Bool.eq_false_iff.mpr fun hmid => hst (h.levelOfSegment hmid).1

theorem SequencerInv.burstPlace (h : SequencerInv s) (hst : s.st = .criticalSection) : BurstPlace s where
  exclHigh := h.exclIff.mpr hst
  pcBound := h.pcBound hst
  levelBetween := h.levelAlternates hst
  levelInside := fun hmid => (h.levelOfSegment hmid).2

theorem SequencerInv.done_eq_false (h : SequencerInv s) (hst : s.st ≠ .idle) : s.done = false :=
  Bool.eq_false_iff.mpr fun hdone => hst (h.doneIdle hdone)

theorem SequencerInv.holdsCommand (h : SequencerInv s)
    (hst : s.st = .armed ∨ s.st = .criticalSection ∨ s.st = .exitMode) : HoldsCommand s :=
  ⟨h.repPositive hst, h.frameBuilt hst⟩

theorem SequencerInv.clausesIn (h : SequencerInv s) : ClausesIn s s.st := by
  have hdone := h.done_eq_false
  have hcmd := h.holdsCommand
  have hradio := h.radioDirect
  cases hst : s.st with
  | idle => exact h.lineAtRest (by simp [hst])
  | failed => exact ⟨hdone (by simp [hst]), h.lineAtRest (by simp [hst])⟩
  | armed => exact ⟨hdone (by simp [hst]), h.lineAtRest (by simp [hst]), hcmd (by simp [hst])⟩
  | criticalSection =>
    exact ⟨hdone (by simp [hst]), h.burstPlace hst, hcmd (by simp [hst]), hradio (by simp [hst])⟩
  | exitMode =>
    exact ⟨hdone (by simp [hst]), h.lineAtRest (by simp [hst]), hcmd (by simp [hst]), hradio (by simp [hst])⟩

/-- Outside a burst the invariant is what is at rest, with the command and the radio where they are claimed. -/
theorem sequencerInv_of_lineAtRest (hsteady : SteadyClauses s) (hrest : LineAtRest s) (hst : s.st ≠ .criticalSection)
    (hdone : s.done = true → s.st = .idle) (hcmd : s.st = .armed ∨ s.st = .exitMode → HoldsCommand s)
    (hradio : s.st = .exitMode → s.radioMode = .direct) : SequencerInv s where
  slotEmpty := hsteady.slotEmpty
  exclIff := by simp [hrest.exclLow, hst]
  idleLow := fun _ => hrest.lineLow
  levelAlternates := fun h => absurd h hst
  levelOfSegment := fun h => by simp [hrest.noSegment] at h
  pcBound := fun h => absurd h hst
  repPositive := fun h => (hcmd (by simpa [hst] using h)).1
  frameBuilt := fun h => (hcmd (by simpa [hst] using h)).2
  radioDirect := fun h => hradio (by simpa [hst] using h)
  doneIdle := hdone
  noIdxErr := hsteady.noIdxErr
  noLenErr := hsteady.noLenErr
  timerStopped := hsteady.timerStopped
  frameReserved := hsteady.frameReserved

/-- Inside a burst the invariant is its place, with the command held and the radio in direct mode. -/
theorem sequencerInv_of_burstPlace (hsteady : SteadyClauses s) (hst : s.st = .criticalSection) (hdone : s.done = false)
    (hplace : BurstPlace s) (hcmd : HoldsCommand s) (hradio : s.radioMode = .direct) : SequencerInv s where
  slotEmpty := hsteady.slotEmpty
  exclIff := by simp [hplace.exclHigh, hst]
  idleLow := fun h => absurd hst h
  levelAlternates := fun _ => hplace.levelBetween
  levelOfSegment := fun h => ⟨hst, hplace.levelInside h⟩
  pcBound := fun _ => hplace.pcBound
  repPositive := fun _ => hcmd.1
  frameBuilt := fun _ => hcmd.2
  radioDirect := fun _ => hradio
  doneIdle := fun h => by simp [hdone] at h
  noIdxErr := hsteady.noIdxErr
  noLenErr := hsteady.noLenErr
  timerStopped := hsteady.timerStopped
  frameReserved := hsteady.frameReserved

theorem sequencerInv_of_clausesIn (hsteady : SteadyClauses s) (h : ClausesIn s s.st) : SequencerInv s := by
  cases hst : s.st <;> rw [hst] at h
  case idle => exact sequencerInv_of_lineAtRest hsteady h (by simp [hst]) (fun _ => hst) (by simp [hst]) (by simp [hst])
  case failed =>
    obtain ⟨hdone, hrest⟩ := h
    exact sequencerInv_of_lineAtRest hsteady hrest (by simp [hst]) (by simp [hdone]) (by simp [hst]) (by simp [hst])
  case armed =>
    obtain ⟨hdone, hrest, hcmd⟩ := h
    exact sequencerInv_of_lineAtRest hsteady hrest (by simp [hst]) (by simp [hdone]) (fun _ => hcmd) (by simp [hst])
  case exitMode =>
    obtain ⟨hdone, hrest, hcmd, hradio⟩ := h
    exact sequencerInv_of_lineAtRest hsteady hrest (by simp [hst]) (by simp [hdone]) (fun _ => hcmd) (fun _ => hradio)
  case criticalSection =>
    obtain ⟨hdone, hplace, hcmd, hradio⟩ := h
    exact sequencerInv_of_burstPlace hsteady hst hdone hplace hcmd hradio

/-- The invariant, state by state. -/
theorem sequencerInv_iff : SequencerInv s ↔ SteadyClauses s ∧ ClausesIn s s.st :=
  ⟨fun h => ⟨h.steady, h.clausesIn⟩, fun ⟨hsteady, h⟩ => sequencerInv_of_clausesIn hsteady h⟩

end Sys2Proof.Machine
end

section
/-! SUPPORT. Each arc of spec/42_waveform_sequencer.md R93, and a reset, keeps the invariant of the sequencer. -/

namespace Sys2Proof.Machine

variable {p : PortSample} {s t : State}

/-- The level of the segment at a position: high at even positions, low at odd ones (R96, R103). -/
theorem segAt_level (f : BitVec 41) (k : Nat) : (segAt f k).level = decide (k % 2 = 0) := by
  have hbit (b : Bool) : (bitKind b).level = true := by cases b <;> rfl
  simp only [segAt]
  split_ifs
  · simp [SegKind.level]; omega
  · simp [SegKind.level]; omega
  · simp [hbit]; omega
  · simp [SegKind.level]; omega

/-- No burst reaches the end of pc's 15 bits (R17). -/
theorem toNat_pc_succ (h : s.pc.toNat < nseg s.rep) : (s.pc + 1).toNat = s.pc.toNat + 1 := by
  have hrep : s.rep.toNat < 256 := s.rep.isLt
  rw [nseg] at h
  rw [BitVec.toNat_add_of_lt (by simp; omega)]
  rfl

/-- What a step does before the FSM's transition touches nothing of the invariant. -/
theorem SequencerInv.dropSample_clearPulses (h : SequencerInv s) : SequencerInv (dropSample (clearPulses s)) :=
  { h with }

/-- A reset establishes the invariant in any state with nothing presented (R152). -/
theorem sequencerInv_warmReset (hslot : s.slot = none) : SequencerInv (warmReset s) :=
  sequencerInv_iff.mpr ⟨⟨hslot, rfl, rfl, rfl, reservedZero_zero⟩, rfl, rfl, rfl⟩

/-- The port cannot raise IDX_RANGE or LEN (R19). -/
theorem cmdChecks_eIdx (c : Cmd) : (cmdChecks c).eIdx = false := by
  have hidx : c.idx.toNat < 16 := c.idx.isLt
  simpa [cmdChecks] using hidx

theorem cmdChecks_eLen (c : Cmd) : (cmdChecks c).eLen = false := by
  simp [cmdChecks]

/-- The next state of the first row of R93 holds the command. -/
theorem holdsCommand_accepted {c : Cmd} (hvalid : validationCause (cmdChecks c) c.rep = none) :
    HoldsCommand (issueEnter { writeFlags (cmdChecks c) (latchOperands c s) with frame := cmdFrame c }) := by
  obtain ⟨hctr, hrep⟩ := (validationCause_eq_none c).mp hvalid
  exact ⟨hrep, hctr, cmdFrame_eq_frameOfFields hctr⟩

theorem SteadyClauses.of_fsmArc (h : SteadyClauses s) (harc : FsmArc p s t) : SteadyClauses t := by
  obtain ⟨hslot, hidx, hlen, htimer, hframe⟩ := h
  cases harc with
  | idleWait | rejectAction | armedWait | answeredOk | answeredFail | levelWrite | burstEnd | pastBurst | finish =>
    exact ⟨hslot, hidx, hlen, htimer, hframe⟩
  | segmentEnd => exact ⟨by simpa, by simpa, by simpa, by simp, by simpa⟩
  | restore => exact ⟨by simpa, by simpa, by simpa, by simpa, by simpa⟩
  | rejectCommand => exact ⟨by simpa, by simp [cmdChecks_eIdx], by simp [cmdChecks_eLen], by simpa, by simpa⟩
  | @accept _ c _ hvalid =>
    obtain ⟨hctr, -⟩ := (validationCause_eq_none c).mp hvalid
    exact ⟨by simpa, by simp [cmdChecks_eIdx], by simp [cmdChecks_eLen], by simpa,
      by simpa using reservedZero_cmdFrame hctr⟩

theorem HoldsCommand.closeSegment (h : HoldsCommand s) (k : SegKind) : HoldsCommand (closeSegment k s) := by
  simpa [HoldsCommand] using h

theorem LineAtRest.of_eq (h : LineAtRest s) (hexcl : t.excl = s.excl) (hlvl : t.lvl = s.lvl)
    (hmid : t.midSegment = s.midSegment) : LineAtRest t :=
  ⟨hexcl.trans h.exclLow, hlvl.trans h.lineLow, hmid.trans h.noSegment⟩

/-- Entering the critical section puts the burst at its first segment, the line low. -/
theorem burstPlace_enterCritical (h : LineAtRest s) : BurstPlace (enterCritical s) where
  exclHigh := rfl
  pcBound := by simp
  levelBetween := fun _ => by simp [h.lineLow]
  levelInside := by simp

/-- A level write leads into the segment at pc. -/
theorem burstPlace_openSegment (h : BurstPlace s) (hpc : s.pc.toNat < nseg s.rep) :
    BurstPlace (openSegment (segAt s.frame s.pc.toNat) s) where
  exclHigh := h.exclHigh
  pcBound := h.pcBound
  levelBetween := by simp
  levelInside := fun _ => ⟨hpc, rfl⟩

/-- A sleep ends the segment: the level stays the segment's, which alternates with pc (R103). -/
theorem burstPlace_closeSegment (h : BurstPlace s) (hmid : s.midSegment = true) (k : SegKind) :
    BurstPlace (closeSegment k s) := by
  obtain ⟨hpc, hlvl⟩ := h.levelInside hmid
  have hsucc := toNat_pc_succ hpc
  refine ⟨by simpa using h.exclHigh, ?_, fun _ => ?_, by simp⟩
  · rw [closeSegment_pc, closeSegment_rep, hsucc]
    exact hpc
  · rw [closeSegment_pc, closeSegment_lvl, hsucc, hlvl, segAt_level, decide_eq_decide]
    omega

/-- At the end of a burst no segment is open and the line is low: NSEG is even (R103). -/
theorem lineAtRest_leaveCritical (h : BurstPlace s) (hpc : s.pc.toNat = nseg s.rep) :
    LineAtRest (leaveCritical s) := by
  have hmid : s.midSegment = false :=
    Bool.eq_false_iff.mpr fun hmid => absurd (h.levelInside hmid).1 (by omega)
  refine ⟨rfl, ?_, hmid⟩
  rw [leaveCritical_lvl, h.levelBetween hmid, hpc, nseg, decide_eq_false_iff_not]; omega

/-- Each arc leads from the clauses of the state it leaves to those of the state it enters. -/
theorem ClausesIn.of_fsmArc (h : ClausesIn s s.st) (harc : FsmArc p s t) : ClausesIn t t.st := by
  cases harc with
  | idleWait | armedWait | pastBurst => exact h
  | accept hst _ hvalid =>
    rw [hst] at h
    exact ⟨rfl, h.of_eq rfl rfl rfl, holdsCommand_accepted hvalid⟩
  | rejectCommand hst | rejectAction hst =>
    rw [hst] at h
    exact ⟨rfl, h.of_eq rfl rfl rfl⟩
  | answeredOk hst =>
    rw [hst] at h
    obtain ⟨hdone, hrest, hcmd⟩ := h
    exact ⟨hdone, burstPlace_enterCritical (hrest.of_eq rfl rfl rfl), hcmd, rfl⟩
  | answeredFail hst =>
    rw [hst] at h
    obtain ⟨hdone, hrest, -⟩ := h
    exact ⟨hdone, hrest.of_eq rfl rfl rfl⟩
  | levelWrite hst hpc =>
    rw [hst] at h
    obtain ⟨hdone, hplace, hcmd, hradio⟩ := h
    rw [openSegment_st, hst]
    exact ⟨hdone, burstPlace_openSegment hplace hpc, hcmd, hradio⟩
  | segmentEnd hst hpc hmid =>
    rw [hst] at h
    obtain ⟨hdone, hplace, hcmd, hradio⟩ := h
    rw [closeSegment_st, hst]
    exact ⟨by simpa, burstPlace_closeSegment hplace hmid _, hcmd.closeSegment _, by simpa⟩
  | burstEnd hst hpc =>
    rw [hst] at h
    obtain ⟨hdone, hplace, hcmd, hradio⟩ := h
    exact ⟨hdone, lineAtRest_leaveCritical hplace hpc, hcmd, hradio⟩
  | restore hst =>
    rw [hst] at h
    obtain ⟨-, hrest, -⟩ := h
    exact hrest.of_eq (by simp) (by simp) (by simp)
  | finish hst =>
    rw [hst] at h
    obtain ⟨-, hrest⟩ := h
    exact hrest.of_eq rfl rfl rfl

/-- Every arc of R93 keeps the invariant. -/
theorem SequencerInv.of_fsmArc (h : SequencerInv s) (harc : FsmArc p s t) : SequencerInv t := by
  obtain ⟨hsteady, hclauses⟩ := sequencerInv_iff.mp h
  exact sequencerInv_iff.mpr ⟨hsteady.of_fsmArc harc, hclauses.of_fsmArc harc⟩

end Sys2Proof.Machine
end

section
/-! THEOREM. The invariant of the sequencer: it holds after reset and every step keeps it. -/

namespace Sys2Proof.Machine

/-- Settles O2: the state after reset is what a reset makes of itself. -/
theorem resetSatisfiesInvariant : Obligations.ResetSatisfiesInvariant :=
  sequencerInv_warmReset (s := State.reset) rfl

/-- Settles O47, by inversion of the step: a reset establishes the invariant, each arc of R93 keeps it. -/
theorem everyStepKeepsInvariant : Obligations.EveryStepKeepsInvariant := by
  unfold Obligations.EveryStepKeepsInvariant
  intro s t hinv hstep
  obtain ⟨-, rfl⟩ | ⟨-, harc⟩ := step_cases_of_empty hinv.slotEmpty hstep
  · exact sequencerInv_warmReset hinv.slotEmpty
  · exact hinv.dropSample_clearPulses.of_fsmArc harc

end Sys2Proof.Machine
end

section
/-! SUPPORT. What one operation can do when it is run by itself: the inversion of `exec` (spec/30_encoding.md R60), for every
statement about a field that few operations write. -/

namespace Sys2Proof.Machine

/-- The effects of the operations: `ExecEffect i s t` where `i` leads from `s` to `t`. -/
inductive ExecEffect (i : Instr) (s : State) : State → Prop
  | returns (r : Returned) : ExecEffect i s (returnValue r s)
  | checks (r : Returned) (c : BuildChecks) : ExecEffect i s (returnValue r (writeFlags c s))
  | accepts {c : Cmd} (hi : i = .transmit c.base c.idx c.pid c.act c.rep) (hst : s.st = .idle) :
      ExecEffect i s (acceptCommand c s)
  | busy (hst : s.st ≠ .idle) : ExecEffect i s s
  | segments (ks : List SegKind) : ExecEffect i s (runSegments ks s)
  | entersRadio : ExecEffect i s (issueEnter s)
  | restoresRadio : ExecEffect i s (issueRestore s)
  | entersCritical : ExecEffect i s (enterCritical s)
  | leavesCritical : ExecEffect i s (leaveCritical s)
  | writesLevel (v : Bool) : ExecEffect i s (memWriteGpio v s)
  | sleeps (d : BitVec 32) : ExecEffect i s (sleepFor d s)

variable {i : Instr} {s t : State}

/-- Inversion of an answered operation. -/
theorem execEffect_of_exec (h : exec i s = .next t) : ExecEffect i s t := by
  cases i with
  | enc | enc4 | enc9 | frame => cases h; exact .returns _
  | build => cases h; exact .checks _ _
  | resolve =>
    simp only [exec, execResolve] at h
    split at h
    next => cases h; exact .returns _
    next => cases h
  | transmit =>
    simp only [exec, execTransmit] at h
    split at h
    next hst => cases h; exact .accepts rfl hst
    next hst => cases h; exact .busy hst
  | syncH => cases h; exact .segments [.syncH]
  | syncL => cases h; exact .segments [.syncL]
  | bit0H => cases h; exact .segments [.bit0H]
  | bit1H => cases h; exact .segments [.bit1H]
  | gapL => cases h; exact .segments [.gapL]
  | emitSync => cases h; exact .segments syncBurst
  | emitBit b => cases h; exact .segments (bitCell (memReadFrame s.frame b.val))
  | emitFrame =>
    simp only [exec, execEmitFrame, Host.Outcome.next.injEq] at h
    exact h ▸ .segments (frameCells s.frame)
  | radioEnter => cases h; exact .entersRadio
  | radioRestore => cases h; exact .restoresRadio
  | exclEnter => cases h; exact .entersCritical
  | exclExit => cases h; exact .leavesCritical
  | gpioHigh => cases h; exact .writesLevel true
  | gpioLow => cases h; exact .writesLevel false
  | sleepUs => cases h; exact .sleeps _

/-- A step with an operation presented is refused, faults, or is that operation's effect with the pulses down (log 1). -/
theorem step_cases_of_slot {q : Request} (hslot : s.slot = some q) (h : step s = .next t) :
    ∃ i, decode s.cfg.tt q = .ok i ∧ ExecEffect i (takeSlot (clearPulses s)) t := by
  rw [step_of_slot hslot, directStep] at h
  split at h
  next i hdecode => exact ⟨i, hdecode, execEffect_of_exec h⟩
  next e _ => cases e <;> cases h

@[simp] theorem acceptCommand_cfg (c : Cmd) (s : State) : (acceptCommand c s).cfg = s.cfg := by
  obtain ⟨_, -, heq⟩ | ⟨-, heq⟩ := acceptCommand_cases c s <;> simp [heq]

/-- No operation writes the configuration (R41). -/
theorem ExecEffect.cfg_eq (h : ExecEffect i s t) : t.cfg = s.cfg := by
  cases h with
  | segments ks => simp [runSegments_eq]
  | accepts => exact acceptCommand_cfg _ s
  | restoresRadio => exact issueRestore_cfg s
  | returns | checks | busy | entersRadio | entersCritical | leavesCritical | writesLevel | sleeps => rfl

/-- No arc of the FSM writes the configuration (R41). -/
theorem FsmArc.cfg_eq {p : PortSample} (h : FsmArc p s t) : t.cfg = s.cfg := by
  cases h with
  | restore => exact issueRestore_cfg s
  | segmentEnd => exact closeSegment_cfg _ _
  | idleWait | accept | rejectCommand | rejectAction | armedWait | answeredOk | answeredFail | levelWrite | burstEnd
  | pastBurst | finish => rfl

end Sys2Proof.Machine
end

section
/-! THEOREM. What no step writes: the configuration, and during a command its operands and FRAME. -/

namespace Sys2Proof.Machine

/-- Settles O50: a presented operation, a reset and an arc of R93 each leave the configuration. -/
theorem configurationIsReadOnly : Obligations.ConfigurationIsReadOnly := by
  unfold Obligations.ConfigurationIsReadOnly
  intro s t hstep
  cases hslot : s.slot with
  | some q =>
    obtain ⟨i, -, heffect⟩ := step_cases_of_slot hslot hstep
    exact heffect.cfg_eq
  | none =>
    obtain ⟨-, rfl⟩ | ⟨-, harc⟩ := step_cases_of_empty hslot hstep
    · rfl
    · exact harc.cfg_eq

/-- Settles O51: the arcs that write operands, FRAME or flags leave IDLE, and of the operations only an accepted TRANSMIT
writes operands or FRAME. -/
theorem operandsHeldDuringCommand : Obligations.OperandsHeldDuringCommand := by
  unfold Obligations.OperandsHeldDuringCommand
  constructor
  · intro s t hslot hbusy hrst hstep
    obtain ⟨hreset, -⟩ | ⟨-, harc⟩ := step_cases_of_empty hslot hstep
    · simp [hrst] at hreset
    · cases harc with
      | idleWait hst | accept hst | rejectCommand hst | rejectAction hst => exact absurd hst hbusy
      | armedWait | answeredOk | answeredFail | levelWrite | segmentEnd | burstEnd | pastBurst | restore | finish => simp
  · intro i s t hbusy hexec
    cases execEffect_of_exec hexec with
    | accepts hi hst => exact absurd hst (hbusy _ _ _ _ _ hi)
    | segments ks => simp [runSegments_eq]
    | returns | checks | busy | entersRadio | restoresRadio | entersCritical | leavesCritical | writesLevel | sleeps => simp

end Sys2Proof.Machine
end

section
/-! THEOREM. The ports: the refusal of both answers at once, and the level outputs. -/

namespace Sys2Proof.Machine

/-- The sample of a step is the script's next. -/
theorem samplePorts_of_inputs {s : State} {p : PortSample} {rest : List PortSample} (h : s.inputs = p :: rest) :
    samplePorts s = p := by
  simp [samplePorts, h]

/-- The record RES in numbers: the result's code above the cause's three bits (R57). -/
theorem toNat_resRecord (s : State) :
    (resRecord s).toNat = 8 * (resultCode s.result).toNat + (causeCode s.cause).toNat := by
  rw [resRecord, toNat_append_eq_add]
  omega

/-- Settles O33: in ARMED, with no reset, the answer lines decide, and both at once have no row in R93 (log 8). -/
theorem bothAnswersAreRefused : Obligations.BothAnswersAreRefused := by
  unfold Obligations.BothAnswersAreRefused
  intro s p rest hslot hst hinputs hrst hok hfail
  rw [step_of_empty hslot, samplePorts_of_inputs hinputs]
  simp [fsmStep, stepArmed, hrst, hst, hok, hfail]

/-- Settles O35: the outputs are the registers, `cmd_ready` the test for IDLE, and RES packs the two codes. -/
theorem outputPortsShowRegisters : Obligations.OutputPortsShowRegisters := by
  unfold Obligations.OutputPortsShowRegisters
  refine ⟨fun s => ⟨?_, rfl, rfl, rfl, toNat_resRecord s⟩, rfl, rfl, rfl, rfl, rfl, rfl, rfl, rfl⟩
  simp [outPorts]

end Sys2Proof.Machine
end

section
/-! SUPPORT. The level write and the sleep as whole next states (spec/20_memory.md R33; spec/42_waveform_sequencer.md R114,
R115). -/

namespace Sys2Proof.Machine

/-- The level write: what it writes, and that it writes nothing else (R33). -/
theorem memWriteGpio_eq (v : Bool) (s : State) :
    memWriteGpio v s = { s with lvl := v, trace := s.trace ++ [if v then .high else .low] } := rfl

/-- The sleep: what it writes, and that it writes nothing else. The countdown of its request half does not outlast its
completion half (R21, log 18). -/
theorem sleepFor_eq (d : BitVec 32) (s : State) :
    sleepFor d s = { s with timer := 0, elapsed := s.elapsed + d.toNat, trace := s.trace ++ [.sleep d] } := rfl

/-- GPIO_HIGH is the level write of 1 (R114). -/
theorem exec_gpioHigh (s : State) : exec .gpioHigh s = .next (memWriteGpio true s) := rfl

/-- GPIO_LOW is the level write of 0 (R114). -/
theorem exec_gpioLow (s : State) : exec .gpioLow s = .next (memWriteGpio false s) := rfl

/-- SLEEP_US is the sleep of its operand (R115). -/
theorem exec_sleepUs (d : BitVec 32) (s : State) : exec (.sleepUs d) s = .next (sleepFor d s) := rfl

end Sys2Proof.Machine
end

section
/-! THEOREM. The primitives run by themselves: the level and the sleep, and nothing else. -/

namespace Sys2Proof.Machine

/-- Settles O24: each operation is its primitive, whose whole next state is known. -/
theorem primitivesWriteLevelAndSleep : Obligations.PrimitivesWriteLevelAndSleep := by
  unfold Obligations.PrimitivesWriteLevelAndSleep
  intro d s
  refine ⟨?high, ?low, ?sleep⟩
  case high => simp [exec_gpioHigh, memWriteGpio_eq]
  case low => simp [exec_gpioLow, memWriteGpio_eq]
  case sleep => rw [exec_sleepUs, sleepFor_eq]

end Sys2Proof.Machine
end

section
/-! SUPPORT. Fields of a bit string (spec/00_scope.md R8): a field of a concatenation lies in one of its parts, and adjacent
fields concatenate to the field over both. With the operands' lengths these two facts give the two directions between the
encoder and the decoder. -/

namespace Sys2Proof

/-- Position `i` of a field. -/
theorem field_getElem? {start len i : Nat} (bs : Bits) (h : i < len) : (field start len bs)[i]? = bs[start + i]? := by
  rw [field, List.getElem?_take_of_lt h, List.getElem?_drop]

/-- A field of zeros, position by position. -/
theorem getElem?_of_field_eq_zeros {start len i : Nat} {bs : Bits} (h : field start len bs = List.replicate len false)
    (hi : i < len) : bs[start + i]? = some false := by
  rw [← field_getElem? bs hi, h, List.getElem?_replicate, if_pos hi]

theorem field_all {len : Nat} {bs : Bits} (h : bs.length = len) : field 0 len bs = bs := by
  rw [field, List.drop_zero, List.take_of_length_le h.le]

theorem field_append_left {start len : Nat} {as : Bits} (bs : Bits) (h : start + len ≤ as.length) :
    field start len (as ++ bs) = field start len as := by
  rw [field, field, List.drop_append_of_le_length (by omega), List.take_append_of_le_length (by simp; omega)]

theorem field_append_right {start : Nat} (len : Nat) {as : Bits} (bs : Bits) (h : as.length ≤ start) :
    field start len (as ++ bs) = field (start - as.length) len bs := by
  rw [field, field, List.drop_append, List.drop_eq_nil_of_le h, List.nil_append]

/-- Adjacent fields. -/
theorem field_append_field {start m mid : Nat} (n : Nat) (bs : Bits) (h : start + m = mid) :
    field start m bs ++ field mid n bs = field start (m + n) bs := by
  rw [field, field, field, List.take_add, List.drop_drop, h]

/-- A field inside the string spells a number of the field's width. -/
theorem valOf_field_lt (start len : Nat) (bs : Bits) : valOf (field start len bs) < 2 ^ len :=
  (valOf_lt _).trans_le (Nat.pow_le_pow_right (by decide) (by simp))

/-- Writing back a field inside the string. -/
theorem bitsOf_valOf_field {start len : Nat} {bs : Bits} (h : start + len ≤ bs.length) :
    bitsOf len (valOf (field start len bs)) = field start len bs := by
  have hlen : (field start len bs).length = len := by simp; omega
  calc bitsOf len (valOf (field start len bs))
      = bitsOf (field start len bs).length (valOf (field start len bs)) := by rw [hlen]
    _ = field start len bs := bitsOf_valOf _

/-- Writing back the register of a field inside the string. -/
theorem bitsOf_toNat_fieldBV {start len : Nat} {bs : Bits} (h : start + len ≤ bs.length) :
    bitsOf len (fieldBV start len bs).toNat = field start len bs := by
  rw [fieldBV, BitVec.toNat_ofNat, Nat.mod_eq_of_lt (valOf_field_lt start len bs), bitsOf_valOf_field h]

theorem fieldBV_append_left {start len : Nat} {as : Bits} (bs : Bits) (h : start + len ≤ as.length) :
    fieldBV start len (as ++ bs) = fieldBV start len as := by
  rw [fieldBV, fieldBV, field_append_left bs h]

theorem fieldBV_append_right {start : Nat} (len : Nat) {as : Bits} (bs : Bits) (h : as.length ≤ start) :
    fieldBV start len (as ++ bs) = fieldBV (start - as.length) len bs := by
  rw [fieldBV, fieldBV, field_append_right len bs h]

/-- A number written at a width it fits is read back. -/
theorem valOf_bitsOf_of_lt {w v : Nat} (h : v < 2 ^ w) : valOf (bitsOf w v) = v := by
  rw [valOf_bitsOf, Nat.mod_eq_of_lt h]

/-- A register written at its width is read back. -/
theorem fieldBV_bitsOf_toNat {w : Nat} (x : BitVec w) : fieldBV 0 w (bitsOf w x.toNat) = x := by
  rw [fieldBV, field_all (bitsOf_length _ _), valOf_bitsOf_of_lt x.isLt, BitVec.ofNat_toNat, BitVec.setWidth_eq]

/-- A number written at its own numeral's length is read back. -/
theorem valOf_bitsOf_numeralLength (v : Nat) : valOf (bitsOf (numeralLength v) v) = v := by
  apply valOf_bitsOf_of_lt
  unfold numeralLength
  split
  next hzero => simp [hzero]
  next => exact Nat.lt_log2_self

/-- Writing at a fixed width is injective on numbers of that width. -/
theorem bitsOf_toNat_inj {w : Nat} {x y : BitVec w} : bitsOf w x.toNat = bitsOf w y.toNat ↔ x = y := by
  refine ⟨fun h => ?_, fun h => by rw [h]⟩
  rw [← fieldBV_bitsOf_toNat x, h, fieldBV_bitsOf_toNat]

end Sys2Proof
end

section
/-! SUPPORT. The SEG33 words (spec/30_encoding.md R54, R55): when two kinds share one, and which kind a word names. -/

namespace Sys2Proof

/-- The five kinds, in R55's order. -/
def SegKind.all : List SegKind := [.syncH, .syncL, .bit0H, .bit1H, .gapL]

theorem SegKind.mem_all (k : SegKind) : k ∈ SegKind.all := by
  cases k <;> decide

/-- A function of the kind is injective exactly when its five values are pairwise different. -/
theorem SegKind.injective_iff_nodup {α : Type} (f : SegKind → α) :
    Function.Injective f ↔ (SegKind.all.map f).Nodup :=
  ⟨fun hinj => List.Nodup.map hinj (by decide),
    fun hnodup k k' => List.inj_on_of_nodup_map hnodup k.mem_all k'.mem_all⟩

theorem SegKind.instr_injective : Function.Injective SegKind.instr :=
  (SegKind.injective_iff_nodup _).mpr (by decide)

/-- Two segments share their word exactly when they share level and duration (R54). -/
theorem segWord_eq_iff (tt : TimingTable) (k k' : SegKind) :
    segWord tt k = segWord tt k' ↔ k.level = k'.level ∧ tt.entry k = tt.entry k' := by
  rw [segWord, segWord, List.cons.injEq, bitsOf_toNat_inj]

/-- The table is distinct exactly when no two kinds share a word: words of different levels differ anyway, so what is left is
T_SYNC_H, T_ZERO, T_ONE at level 1 and T_SYNC_L, T_GAP at level 0 (R55). -/
theorem distinct_iff_segWord_injective (tt : TimingTable) : tt.distinct = true ↔ Function.Injective (segWord tt) := by
  rw [SegKind.injective_iff_nodup]
  simp only [TimingTable.distinct, SegKind.all, List.map_cons, List.map_nil, List.nodup_cons, List.mem_cons,
    segWord_eq_iff, SegKind.level, TimingTable.entry, Bool.and_eq_true, bne_iff_ne]
  simp [and_assoc]
  tauto

/-- The kind a word names has that word. -/
theorem segWord_of_segOfWord {tt : TimingTable} {bs : Bits} {k : SegKind} (h : segOfWord tt bs = some k) :
    segWord tt k = bs := by
  simpa using List.find?_some h

/-- A word names no kind exactly when it is none of the five (R56). -/
theorem segOfWord_eq_none_iff (tt : TimingTable) (bs : Bits) : segOfWord tt bs = none ↔ ∀ k, segWord tt k ≠ bs := by
  have hfind : segOfWord tt bs = SegKind.all.find? (fun k => segWord tt k == bs) := rfl
  simp [hfind, SegKind.mem_all]

/-- Each kind is what its own word names exactly when no two kinds share a word. -/
theorem segOfWord_segWord_iff_injective (tt : TimingTable) :
    (∀ k, segOfWord tt (segWord tt k) = some k) ↔ Function.Injective (segWord tt) := by
  constructor
  · intro hread k k' hword
    exact Option.some.inj (by rw [← hread k, hword, hread k'])
  · intro hinj k
    cases hread : segOfWord tt (segWord tt k) with
    | none => exact absurd rfl ((segOfWord_eq_none_iff tt _).mp hread k)
    | some k' => rw [hinj (segWord_of_segOfWord hread)]

end Sys2Proof
end

section
/-! SUPPORT. The decoder on a string of its format's length, and what it makes of FRAME41 and SEG33, the two formats with
strings that are no operation (spec/30_encoding.md R45, R48, R56). -/

namespace Sys2Proof

/-- A string of the right length is read by its fields. -/
theorem decode_of_fits (tt : TimingTable) {q : Request} (h : q.fmt.fits q.bits = true) :
    decode tt q = decodeFields tt q.fmt q.bits := by
  rw [decode, if_pos h]

/-- Inversion of an answered decoding. -/
theorem decode_eq_ok_iff {tt : TimingTable} {q : Request} {i : Instr} :
    decode tt q = .ok i ↔ q.fmt.fits q.bits = true ∧ decodeFields tt q.fmt q.bits = .ok i := by
  unfold decode
  split <;> simp [*]

/-- A string fits a format of one length exactly when it has that length. -/
theorem fits_iff_length_eq {f : Format} {n : Nat} (hf : f.length? = some n) (bs : Bits) :
    f.fits bs = true ↔ bs.length = n := by
  simp [Format.fits, hf]

theorem reservedClear_iff (bs : Bits) :
    reservedClear bs = true ↔
      field 0 3 bs = List.replicate 3 false ∧ field 24 6 bs = List.replicate 6 false := by
  simp [reservedClear, List.replicate]

/-- A reserved position of a frame with clear reserved positions holds 0 (R48). -/
theorem getElem?_of_reservedClear {bs : Bits} (h : reservedClear bs = true) {i : Nat}
    (hi : i < 3 ∨ (24 ≤ i ∧ i < 30)) : bs[i]? = some false := by
  obtain ⟨hleading, hmid⟩ := (reservedClear_iff bs).mp h
  obtain hlt | ⟨hge, hlt⟩ := hi
  · simpa using getElem?_of_field_eq_zeros hleading hlt
  · obtain ⟨j, rfl⟩ := Nat.exists_eq_add_of_le hge
    exact getElem?_of_field_eq_zeros hmid (by omega)

/-- A frame string is read exactly when its reserved positions are clear (R48). -/
theorem decodeFrame_eq_ok_iff {bs : Bits} {i : Instr} :
    decodeFrame bs = .ok i ↔ reservedClear bs = true ∧
      .frame (fieldBV 3 4 bs) (fieldBV 7 17 bs) (fieldBV 30 9 bs) (fieldBV 39 2 bs) = i := by
  unfold decodeFrame
  split <;> simp [*]

/-- A frame with a 1 in a reserved position is not read (R48). -/
theorem decodeFrame_of_reserved_one {bs : Bits} {i : Nat} (hi : i < 3 ∨ (24 ≤ i ∧ i < 30))
    (hone : bs[i]? = some true) :
    decodeFrame bs = .error .reservedNonzero := by
  have hset : ¬ reservedClear bs = true := by
    intro hclear
    simp [getElem?_of_reservedClear hclear hi] at hone
  rw [decodeFrame, if_neg hset]

theorem decodeFields_seg33_of_some {tt : TimingTable} {bs : Bits} {k : SegKind} (h : segOfWord tt bs = some k) :
    decodeFields tt .seg33 bs = .ok k.instr := by
  simp [decodeFields, h]

theorem decodeFields_seg33_of_none {tt : TimingTable} {bs : Bits} (h : segOfWord tt bs = none) :
    decodeFields tt .seg33 bs = .error .illegalSegment := by
  simp [decodeFields, h]

/-- The words that the decoder reads as a kind are those that name it. -/
theorem decodeFields_seg33_eq_ok_iff {tt : TimingTable} {bs : Bits} {i : Instr} :
    decodeFields tt .seg33 bs = .ok i ↔ ∃ k, segOfWord tt bs = some k ∧ k.instr = i := by
  cases h : segOfWord tt bs with
  | none => simp [decodeFields_seg33_of_none h]
  | some k => simp [decodeFields_seg33_of_some h]

/-- A kind's own word is decoded to its operation exactly when it names that kind. -/
theorem decode_segWord_iff (tt : TimingTable) (k : SegKind) :
    decode tt ⟨.seg33, segWord tt k⟩ = .ok k.instr ↔ segOfWord tt (segWord tt k) = some k := by
  have hfits : Format.seg33.fits (segWord tt k) = true := (fits_iff_length_eq rfl _).mpr (Laws.segWord_length tt k)
  simp [decode_of_fits tt (q := ⟨.seg33, segWord tt k⟩) hfits, decodeFields_seg33_eq_ok_iff,
    SegKind.instr_injective.eq_iff]

end Sys2Proof
end

section
/-! SUPPORT. The encoder's strings (spec/30_encoding.md R46, R51, R52): each is as long as its format says, its fields are the
operands written into it, and a string is its fields written one after the other. -/

namespace Sys2Proof

/-- Every well-formed operation is presented as a string of its format's length (R45). -/
theorem encode_fits {i : Instr} (hwf : i.wf = true) (tt : TimingTable) :
    (encode tt i).fmt.fits (encode tt i).bits = true := by
  have h : Laws.EncodedLength.Statement i := by
    cases i with
    | enc v w => exact Laws.EncodedLength.enc v w
    | enc4 v => exact Laws.EncodedLength.enc4 v
    | enc9 v => exact Laws.EncodedLength.enc9 v
    | frame d p c a => exact Laws.EncodedLength.frame d p c a
    | build base idx pid act => exact Laws.EncodedLength.build base idx pid act
    | resolve s d r => exact Laws.EncodedLength.resolve s d r
    | transmit b d p a r => exact Laws.EncodedLength.transmit b d p a r
    | syncH => exact Laws.EncodedLength.syncH
    | syncL => exact Laws.EncodedLength.syncL
    | bit0H => exact Laws.EncodedLength.bit0H
    | bit1H => exact Laws.EncodedLength.bit1H
    | gapL => exact Laws.EncodedLength.gapL
    | emitSync => exact Laws.EncodedLength.emitSync
    | emitBit b => exact Laws.EncodedLength.emitBit b
    | emitFrame => exact Laws.EncodedLength.emitFrame
    | radioEnter => exact Laws.EncodedLength.radioEnter
    | radioRestore => exact Laws.EncodedLength.radioRestore
    | exclEnter => exact Laws.EncodedLength.exclEnter
    | exclExit => exact Laws.EncodedLength.exclExit
    | gpioHigh => exact Laws.EncodedLength.gpioHigh
    | gpioLow => exact Laws.EncodedLength.gpioLow
    | sleepUs d => exact Laws.EncodedLength.sleepUs d
  exact h hwf tt

/-- The operation of a kind is presented as that kind's word (R55). -/
theorem encode_segKind_instr (tt : TimingTable) (k : SegKind) : encode tt k.instr = ⟨.seg33, segWord tt k⟩ := by
  cases k <;> rfl

/-! ### Reading the written fields -/

/-- The frame of four fields has clear reserved positions and holds each field at its place (R46, R48). -/
theorem decodeFrame_encodeFrame (d : BitVec 4) (p : BitVec 17) (c : BitVec 9) (a : BitVec 2) :
    decodeFrame (encodeFrame d p c a) = .ok (.frame d p c a) := by
  have hclear : reservedClear (encodeFrame d p c a) = true := by
    simp (disch := simp) only [reservedClear, encodeFrame, field_append_left, field_append_right, field_all]
    simp [field]
  refine decodeFrame_eq_ok_iff.mpr ⟨hclear, ?_⟩
  simp (disch := simp) only [encodeFrame, fieldBV_append_left, fieldBV_append_right]
  simp [fieldBV_bitsOf_toNat]

/-- BUILD's operands are read back (R51 without r). -/
theorem decodeFields_buildOps {base idx : Nat} {pid act : Bits} (tt : TimingTable) (hbase : base < 2 ^ 32)
    (hidx : idx < 2 ^ 4) (hpid : pid.length = 17) (hact : act.length = 2) :
    decodeFields tt .buildOps (bitsOf 32 base ++ bitsOf 4 idx ++ pid ++ act) = .ok (.build base idx pid act) := by
  simp [decodeFields, field_append_left, field_append_right, field_all, valOf_bitsOf_of_lt hbase,
    valOf_bitsOf_of_lt hidx, hpid, hact]

/-- RESOLVE's operands are read back (R52). -/
theorem decodeFields_rcmd (tt : TimingTable) (s : BitVec 2) (d : BitVec 4) (r : BitVec 8) :
    decodeFields tt .rcmd (bitsOf 2 s.toNat ++ bitsOf 4 d.toNat ++ bitsOf 8 r.toNat) = .ok (.resolve s d r) := by
  simp [decodeFields, fieldBV_append_left, fieldBV_append_right, fieldBV_bitsOf_toNat]

/-- TRANSMIT's operands are read back (R51). -/
theorem decodeFields_cmd (tt : TimingTable) (b : BitVec 32) (d : BitVec 4) (p : BitVec 17) (a : BitVec 2)
    (r : BitVec 8) : decodeFields tt .cmd (encodeCmd b d p a r) = .ok (.transmit b d p a r) := by
  simp [decodeFields, encodeCmd, fieldBV_append_left, fieldBV_append_right, fieldBV_bitsOf_toNat]

/-! ### Writing the read fields -/

/-- A frame with clear reserved positions is the frame of its four fields (R46, R48). -/
theorem encodeFrame_fields {bs : Bits} (hlen : bs.length = 41) (hclear : reservedClear bs = true) :
    encodeFrame (fieldBV 3 4 bs) (fieldBV 7 17 bs) (fieldBV 30 9 bs) (fieldBV 39 2 bs) = bs := by
  obtain ⟨hleading, hmid⟩ := (reservedClear_iff bs).mp hclear
  calc encodeFrame (fieldBV 3 4 bs) (fieldBV 7 17 bs) (fieldBV 30 9 bs) (fieldBV 39 2 bs)
      = field 0 3 bs ++ field 3 4 bs ++ field 7 17 bs ++ field 24 6 bs ++ field 30 9 bs ++ field 39 2 bs := by
        simp [encodeFrame, bitsOf_toNat_fieldBV, hlen, hleading, hmid, List.replicate]
    _ = field 0 41 bs := by simp only [field_append_field, Nat.reduceAdd]
    _ = bs := field_all hlen

/-- BUILD's operands written back are the string (R51 without r). -/
theorem buildOps_fields {bs : Bits} (hlen : bs.length = 55) :
    bitsOf 32 (valOf (field 0 32 bs)) ++ bitsOf 4 (valOf (field 32 4 bs)) ++ field 36 17 bs ++ field 53 2 bs = bs := by
  calc bitsOf 32 (valOf (field 0 32 bs)) ++ bitsOf 4 (valOf (field 32 4 bs)) ++ field 36 17 bs ++ field 53 2 bs
      = field 0 32 bs ++ field 32 4 bs ++ field 36 17 bs ++ field 53 2 bs := by
        rw [bitsOf_valOf_field (by omega), bitsOf_valOf_field (by omega)]
    _ = field 0 55 bs := by simp only [field_append_field, Nat.reduceAdd]
    _ = bs := field_all hlen

/-- RESOLVE's operands written back are the string (R52). -/
theorem rcmd_fields {bs : Bits} (hlen : bs.length = 14) :
    bitsOf 2 (fieldBV 0 2 bs).toNat ++ bitsOf 4 (fieldBV 2 4 bs).toNat ++ bitsOf 8 (fieldBV 6 8 bs).toNat = bs := by
  calc bitsOf 2 (fieldBV 0 2 bs).toNat ++ bitsOf 4 (fieldBV 2 4 bs).toNat ++ bitsOf 8 (fieldBV 6 8 bs).toNat
      = field 0 2 bs ++ field 2 4 bs ++ field 6 8 bs := by
        simp only [bitsOf_toNat_fieldBV, hlen, Nat.reduceAdd, Nat.reduceLeDiff]
    _ = field 0 14 bs := by simp only [field_append_field, Nat.reduceAdd]
    _ = bs := field_all hlen

/-- TRANSMIT's operands written back are the string (R51). -/
theorem encodeCmd_fields {bs : Bits} (hlen : bs.length = 63) :
    encodeCmd (fieldBV 0 32 bs) (fieldBV 32 4 bs) (fieldBV 36 17 bs) (fieldBV 53 2 bs) (fieldBV 55 8 bs) = bs := by
  calc encodeCmd (fieldBV 0 32 bs) (fieldBV 32 4 bs) (fieldBV 36 17 bs) (fieldBV 53 2 bs) (fieldBV 55 8 bs)
      = field 0 32 bs ++ field 32 4 bs ++ field 36 17 bs ++ field 53 2 bs ++ field 55 8 bs := by
        simp only [encodeCmd, bitsOf_toNat_fieldBV, hlen, Nat.reduceAdd, Nat.reduceLeDiff]
    _ = field 0 63 bs := by simp only [field_append_field, Nat.reduceAdd]
    _ = bs := field_all hlen

end Sys2Proof
end

section
/-! THEOREM. Encoder and decoder are inverse to each other, format by format (spec/30_encoding.md R45 to R55). -/

namespace Sys2Proof

/-- A well-formed operation's string stands for that operation, under a table whose words name their kinds. -/
theorem decodeFields_encode {tt : TimingTable} (hread : ∀ k, segOfWord tt (segWord tt k) = some k) {i : Instr}
    (hwf : i.wf = true) : decodeFields tt (encode tt i).fmt (encode tt i).bits = .ok i := by
  cases i with
  | enc v w =>
    have hpos : 0 < w := by simpa [Instr.wf] using hwf
    simp [encode, decodeFields, hpos, valOf_bitsOf_numeralLength]
  | enc4 v =>
    have hv : v < 2 ^ 4 := by simpa [Instr.wf] using hwf
    simp [encode, decodeFields, valOf_bitsOf_of_lt hv]
  | enc9 v =>
    have hv : v < 2 ^ 9 := by simpa [Instr.wf] using hwf
    simp [encode, decodeFields, valOf_bitsOf_of_lt hv]
  | frame d p c a => exact decodeFrame_encodeFrame d p c a
  | build base idx pid act =>
    simp only [Instr.wf, Bool.and_eq_true, decide_eq_true_eq] at hwf
    obtain ⟨⟨⟨hbase, hidx⟩, hpid⟩, hact⟩ := hwf
    exact decodeFields_buildOps tt hbase hidx hpid hact
  | resolve s d r => exact decodeFields_rcmd tt s d r
  | transmit b d p a r => exact decodeFields_cmd tt b d p a r
  | syncH => exact decodeFields_seg33_of_some (hread .syncH)
  | syncL => exact decodeFields_seg33_of_some (hread .syncL)
  | bit0H => exact decodeFields_seg33_of_some (hread .bit0H)
  | bit1H => exact decodeFields_seg33_of_some (hread .bit1H)
  | gapL => exact decodeFields_seg33_of_some (hread .gapL)
  | sleepUs d => simp [encode, decodeFields, fieldBV_bitsOf_toNat]
  | emitSync | emitBit | emitFrame | radioEnter | radioRestore | exclEnter | exclExit | gpioHigh | gpioLow => rfl

/-- Settles O25: the encoding fits its format, and each format's fields are read back as they were written. -/
theorem decodeOfEncode : Obligations.DecodeOfEncode := by
  unfold Obligations.DecodeOfEncode
  intro tt i hdistinct hwf
  have hread := (segOfWord_segWord_iff_injective tt).mpr ((distinct_iff_segWord_injective tt).mp hdistinct)
  rw [decode_of_fits tt (encode_fits hwf tt), decodeFields_encode hread hwf]

/-- Settles O26, by cases on the format: what is read from the fields, written back, is the string. -/
theorem encodeOfDecode : Obligations.EncodeOfDecode := by
  unfold Obligations.EncodeOfDecode
  rintro tt ⟨f, bs⟩ i hfunc hdecode
  obtain ⟨hfits, hfields⟩ := decode_eq_ok_iff.mp hdecode
  cases f with
  | func w => exact absurd rfl (hfunc w)
  | func4 | func9 =>
    have hlen := (fits_iff_length_eq rfl bs).mp hfits
    cases hfields
    simp only [encode, ← hlen, bitsOf_valOf]
  | frame41 =>
    have hlen := (fits_iff_length_eq rfl bs).mp hfits
    obtain ⟨hclear, rfl⟩ := decodeFrame_eq_ok_iff.mp hfields
    exact congrArg _ (encodeFrame_fields hlen hclear)
  | buildOps =>
    have hlen := (fits_iff_length_eq rfl bs).mp hfits
    cases hfields; exact congrArg _ (buildOps_fields hlen)
  | rcmd =>
    have hlen := (fits_iff_length_eq rfl bs).mp hfits
    cases hfields; exact congrArg _ (rcmd_fields hlen)
  | cmd =>
    have hlen := (fits_iff_length_eq rfl bs).mp hfits
    cases hfields; exact congrArg _ (encodeCmd_fields hlen)
  | seg33 =>
    obtain ⟨k, hname, rfl⟩ := decodeFields_seg33_eq_ok_iff.mp hfields
    rw [encode_segKind_instr, segWord_of_segOfWord hname]
  | us32 =>
    have hlen := (fits_iff_length_eq rfl bs).mp hfits
    cases hfields
    simp [encode, bitsOf_toNat_fieldBV, hlen, field_all]
  | signal | gpio1 =>
    obtain ⟨b, rfl⟩ := List.length_eq_one_iff.mp ((fits_iff_length_eq rfl bs).mp hfits)
    cases b <;> cases hfields <;> rfl
  | macroSync | macroBit | macroFrame | callEnter | callRestore =>
    obtain rfl := List.length_eq_zero_iff.mp ((fits_iff_length_eq rfl bs).mp hfits)
    cases hfields; rfl

/-- Settles O27, by cases on the format: a field spells a number of its own width. -/
theorem decodedOperationsAreWellFormed : Obligations.DecodedOperationsAreWellFormed := by
  unfold Obligations.DecodedOperationsAreWellFormed
  rintro tt ⟨f, bs⟩ i hdecode
  obtain ⟨hfits, hfields⟩ := decode_eq_ok_iff.mp hdecode
  cases f with
  | func w =>
    simp only [decodeFields] at hfields
    split at hfields
    next hpos => cases hfields; simpa [Instr.wf] using hpos
    next => cases hfields
  | func4 | func9 =>
    have hlen := (fits_iff_length_eq rfl bs).mp hfits
    cases hfields
    simpa [Instr.wf, hlen] using valOf_lt bs
  | frame41 =>
    obtain ⟨-, rfl⟩ := decodeFrame_eq_ok_iff.mp hfields
    rfl
  | buildOps =>
    have hlen := (fits_iff_length_eq rfl bs).mp hfits
    cases hfields
    simpa [Instr.wf, hlen] using ⟨valOf_field_lt 0 32 bs, valOf_field_lt 32 4 bs⟩
  | seg33 =>
    obtain ⟨k, -, rfl⟩ := decodeFields_seg33_eq_ok_iff.mp hfields
    cases k <;> rfl
  | signal | gpio1 =>
    obtain ⟨b, rfl⟩ := List.length_eq_one_iff.mp ((fits_iff_length_eq rfl bs).mp hfits)
    cases b <;> cases hfields <;> rfl
  | rcmd | cmd | us32 | macroSync | macroBit | macroFrame | callEnter | callRestore => cases hfields; rfl

/-- Settles O29: both sides say that no two kinds share a word. -/
theorem segmentWordsDecodableIffDistinct : Obligations.SegmentWordsDecodableIffDistinct := by
  unfold Obligations.SegmentWordsDecodableIffDistinct
  intro tt
  calc tt.distinct = true
      ↔ Function.Injective (segWord tt) := distinct_iff_segWord_injective tt
    _ ↔ ∀ k, segOfWord tt (segWord tt k) = some k := (segOfWord_segWord_iff_injective tt).symm
    _ ↔ ∀ k : SegKind, decode tt ⟨.seg33, segWord tt k⟩ = .ok k.instr :=
        forall_congr' fun k => (decode_segWord_iff tt k).symm

/-- Settles O30: the words are closed, and the decoder computes. -/
theorem writtenOutWordsDecode : Obligations.WrittenOutWordsDecode := by
  unfold Obligations.WrittenOutWordsDecode
  refine ⟨?transmit, ?frame, ?enc9, ?resolve, ?syncH, ?syncL, ?bit0H, ?bit1H, ?gapL, ?sleepUs⟩ <;> decide

end Sys2Proof
end

section
/-! THEOREM. A step on a presented request: the operation it stands for, or the decoder's report (spec/30_encoding.md R48,
R56, R60). -/

namespace Sys2Proof.Machine

/-- A step on a request that stands for an operation runs that operation (log 1). -/
theorem step_of_decode_ok {s : State} {q : Request} {i : Instr} (hslot : s.slot = some q)
    (hdecode : decode s.cfg.tt q = .ok i) : step s = exec i (takeSlot (clearPulses s)) := by
  simp [step_of_slot hslot, directStep, hdecode]

/-- A step on a request that is no operation answers the decoder's report (log 23). -/
theorem step_of_decode_error {s : State} {q : Request} {e : DecodeError} (hslot : s.slot = some q)
    (hdecode : decode s.cfg.tt q = .error e) : step s = undecoded e := by
  simp [step_of_slot hslot, directStep, hdecode]

/-- Settles O31: emptying the slot and letting the pulses fall is what stands before `exec`. -/
theorem stepRunsPresentedOperation : Obligations.StepRunsPresentedOperation := by
  unfold Obligations.StepRunsPresentedOperation
  intro s q i hslot hdecode
  rw [step_of_decode_ok hslot hdecode]
  rfl

/-- Settles O28: the string has its format's length, and the decoder reports it. -/
theorem illegalWordsFault : Obligations.IllegalWordsFault := by
  unfold Obligations.IllegalWordsFault
  intro s bs
  constructor
  · rintro hslot hlen ⟨i, hi, hone⟩
    have hdecode : decode s.cfg.tt ⟨.frame41, bs⟩ = .error .reservedNonzero := by
      rw [decode_of_fits _ ((fits_iff_length_eq rfl bs).mpr hlen), decodeFields, decodeFrame_of_reserved_one hi hone]
    exact step_of_decode_error hslot hdecode
  · intro hslot hlen hword
    have hnone : segOfWord s.cfg.tt bs = none := (segOfWord_eq_none_iff _ bs).mpr fun k heq => hword k heq.symm
    have hdecode : decode s.cfg.tt ⟨.seg33, bs⟩ = .error .illegalSegment := by
      rw [decode_of_fits _ ((fits_iff_length_eq rfl bs).mpr hlen), decodeFields_seg33_of_none hnone]
    exact step_of_decode_error hslot hdecode

end Sys2Proof.Machine
end

section
/-! SUPPORT. The frame of four fields: its integer form, and where each field stands (spec/30_encoding.md R46, R47). -/

namespace Sys2Proof.Machine

/-- Position `i` of a frame, counted from the left (R34). -/
theorem memReadFrame_eq_getMsbD (f : BitVec 41) {i : Nat} (hi : i < 41) : memReadFrame f i = f.getMsbD i := by
  simp [memReadFrame, BitVec.getMsbD, hi]

theorem getMsbD_append_of_lt {m n i : Nat} (x : BitVec m) (y : BitVec n) (h : i < m) :
    (x ++ y).getMsbD i = x.getMsbD i := by
  rw [BitVec.getMsbD_append, if_neg (by omega)]

theorem getMsbD_append_add {m n : Nat} (x : BitVec m) (y : BitVec n) (i : Nat) :
    (x ++ y).getMsbD (m + i) = y.getMsbD i := by
  rw [BitVec.getMsbD_append, if_pos (by omega), Nat.add_sub_cancel_left]

/-- A part of a concatenation, by the positions it takes. -/
theorem getMsbD_append_append_add {l m n i : Nat} (x : BitVec l) (y : BitVec m) (z : BitVec n) (h : i < m) :
    (x ++ y ++ z).getMsbD (l + i) = y.getMsbD i := by
  rw [getMsbD_append_of_lt _ _ (by omega), getMsbD_append_add]

section Fields
variable (d : BitVec 4) (p : BitVec 17) (c : BitVec 9) (a : BitVec 2)

/-- FRAME returns the laid-out frame (R46; log 9, log 10). -/
theorem exec_frame (s : State) :
    exec (.frame d p c a) s = .next (returnValue (.frame (frameOfFields d p c a)) s) := rfl

/-- R46's layout spells R46's integer form: each field is shifted past the fields to its right. -/
theorem toNat_frameOfFields_eq_frameInteger :
    (frameOfFields d p c a).toNat = frameInteger d.toNat p.toNat c.toNat a.toNat := by
  simp only [frameOfFields, frameInteger, BitVec.toNat_append, Nat.shiftLeft_or_distrib, ← Nat.shiftLeft_add]
  simp

theorem memReadFrame_frameOfFields_index {i : Nat} (hi : i < 4) :
    memReadFrame (frameOfFields d p c a) (3 + i) = d.getMsbD i := by
  rw [memReadFrame_eq_getMsbD _ (by omega)]
  calc (0#3 ++ d ++ p ++ 0#6 ++ c ++ a).getMsbD (3 + i)
      = (0#3 ++ d ++ p ++ 0#6 ++ c).getMsbD (3 + i) := getMsbD_append_of_lt _ a (by omega)
    _ = (0#3 ++ d ++ p ++ 0#6).getMsbD (3 + i) := getMsbD_append_of_lt _ c (by omega)
    _ = (0#3 ++ d ++ p).getMsbD (3 + i) := getMsbD_append_of_lt _ 0#6 (by omega)
    _ = d.getMsbD i := getMsbD_append_append_add 0#3 d p hi

theorem memReadFrame_frameOfFields_protocolId {i : Nat} (hi : i < 17) :
    memReadFrame (frameOfFields d p c a) (7 + i) = p.getMsbD i := by
  rw [memReadFrame_eq_getMsbD _ (by omega)]
  calc (0#3 ++ d ++ p ++ 0#6 ++ c ++ a).getMsbD (7 + i)
      = (0#3 ++ d ++ p ++ 0#6 ++ c).getMsbD (7 + i) := getMsbD_append_of_lt _ a (by omega)
    _ = (0#3 ++ d ++ p ++ 0#6).getMsbD (7 + i) := getMsbD_append_of_lt _ c (by omega)
    _ = p.getMsbD i := getMsbD_append_append_add (0#3 ++ d) p 0#6 hi

theorem memReadFrame_frameOfFields_counter {i : Nat} (hi : i < 9) :
    memReadFrame (frameOfFields d p c a) (30 + i) = c.getMsbD i := by
  rw [memReadFrame_eq_getMsbD _ (by omega)]
  exact getMsbD_append_append_add (0#3 ++ d ++ p ++ 0#6) c a hi

theorem memReadFrame_frameOfFields_action {i : Nat} (hi : i < 2) :
    memReadFrame (frameOfFields d p c a) (39 + i) = a.getMsbD i := by
  rw [memReadFrame_eq_getMsbD _ (by omega)]
  exact getMsbD_append_add (0#3 ++ d ++ p ++ 0#6 ++ c) a i

end Fields

end Sys2Proof.Machine
end

section
/-! THEOREM. The layout of the frame that the FRAME row returns. -/

namespace Sys2Proof.Machine

/-- Settles O8: FRAME returns the layout of its fields, whose number and positions are known. -/
theorem frameLaysOutItsFields : Obligations.FrameLaysOutItsFields := by
  unfold Obligations.FrameLaysOutItsFields
  intro d p c a s
  exact ⟨frameOfFields d p c a, exec_frame d p c a s, toNat_frameOfFields_eq_frameInteger d p c a,
    reservedZero_frameOfFields d p c a, fun _ => memReadFrame_frameOfFields_index d p c a,
    fun _ => memReadFrame_frameOfFields_protocolId d p c a, fun _ => memReadFrame_frameOfFields_counter d p c a,
    fun _ => memReadFrame_frameOfFields_action d p c a⟩

end Sys2Proof.Machine
end

section
/-! SUPPORT. ENC's error signal, and the codec operations run by themselves, in range and out of range
(spec/40_bitfield_codec.md R65 to R70). -/

namespace Sys2Proof.Machine

variable {value width : Nat}

/-- The error signal is raised exactly out of range (R65, R70). -/
theorem encodeUnsigned_err_iff (value width : Nat) : (encodeUnsigned value width).2 = true ↔ 2 ^ width ≤ value := by
  rcases Nat.lt_or_ge value (2 ^ width) with hlt | hge
  · simp [encodeUnsigned_of_lt hlt, hlt]
  · simp [encodeUnsigned_of_ge hge, hge]

/-- ENC returns the pair and does nothing else (R65, log 9). -/
theorem exec_enc (value width : Nat) (s : State) :
    exec (.enc value width) s =
      .next (returnValue (.bits (encodeUnsigned value width).1 (encodeUnsigned value width).2) s) := rfl

/-- ENC run by itself on a value in range (R65, log 9). -/
theorem exec_enc_of_lt (h : value < 2 ^ width) (s : State) :
    exec (.enc value width) s = .next { s with ret := .bits (bitsOf width value) false } := by
  rw [exec_enc, encodeUnsigned_of_lt h, returnValue]

/-- ENC run by itself on a value out of range (R65, R70, log 9). -/
theorem exec_enc_of_ge (h : 2 ^ width ≤ value) (s : State) :
    exec (.enc value width) s = .next { s with ret := .bits (List.replicate width false) true } := by
  rw [exec_enc, encodeUnsigned_of_ge h, returnValue]

/-- ENC4 is ENC at width 4 (R67). -/
theorem exec_enc4_eq_exec_enc (v : Nat) (s : State) : exec (.enc4 v) s = exec (.enc v 4) s := rfl

/-- ENC9 is ENC at width 9 (R68). -/
theorem exec_enc9_eq_exec_enc (v : Nat) (s : State) : exec (.enc9 v) s = exec (.enc v 9) s := rfl

end Sys2Proof.Machine
end

section
/-! THEOREM. The codec: the result of ENC, ENC4 and ENC9 on every value, the round trip and the rejection. -/

namespace Sys2Proof.Machine

/-- Settles O4, by the value in range and out of range: each time ENC's next state is known. -/
theorem encodeUnsignedResult : Obligations.EncodeUnsignedResult := by
  unfold Obligations.EncodeUnsignedResult
  intro value width s
  rcases Nat.lt_or_ge value (2 ^ width) with hlt | hge
  · exact ⟨bitsOf width value, false, exec_enc_of_lt hlt s, bitsOf_length width value,
      fun _ => ⟨rfl, fun _ hp => bitsOf_getElem? value hp⟩, fun hge => absurd hlt hge.not_gt⟩
  · exact ⟨List.replicate width false, true, exec_enc_of_ge hge s, List.length_replicate,
      fun hlt => absurd hlt hge.not_gt, fun _ => ⟨rfl, rfl⟩⟩

/-- Settles O6: in range ENC answers the value's bits, which spell the value at every width, so at 4 and 9. -/
theorem encodeUnsignedRoundTrips : Obligations.EncodeUnsignedRoundTrips := by
  unfold Obligations.EncodeUnsignedRoundTrips
  intro v w _ hlt
  rw [encodeUnsigned_of_lt hlt]
  exact ⟨valOf_bitsOf_of_lt hlt, rfl⟩

/-- Settles O5: ENC4 and ENC9 are ENC at width 4 and 9, in range and out of range. -/
theorem enc4AndEnc9Results : Obligations.Enc4AndEnc9Results := by
  unfold Obligations.Enc4AndEnc9Results
  intro v s
  rw [exec_enc4_eq_exec_enc, exec_enc9_eq_exec_enc]
  exact ⟨fun hlt => exec_enc_of_lt (width := 4) hlt s, fun hge => exec_enc_of_ge (width := 4) hge s,
    fun hlt => exec_enc_of_lt (width := 9) hlt s, fun hge => exec_enc_of_ge (width := 9) hge s⟩

/-- Settles O7: the error signal says that the value is out of range, and there the bits are zeros. -/
theorem encodeUnsignedRejects : Obligations.EncodeUnsignedRejects := by
  unfold Obligations.EncodeUnsignedRejects
  intro v w
  refine ⟨encodeUnsigned_err_iff v w, fun herr => ?_⟩
  rw [encodeUnsigned_of_ge ((encodeUnsigned_err_iff v w).mp herr)]

end Sys2Proof.Machine
end

section
/-! SUPPORT. The register FRAME as a bit string, and the string that BUILD makes of operands in range: its fields, its number
(spec/41_frame_builder.md R77, R78; spec/30_encoding.md R46). -/

namespace Sys2Proof

/-- A written number, position by position (R47). -/
theorem bitsOf_eq_map_testBit (w v : Nat) : bitsOf w v = (List.range w).map fun p => v.testBit (w - 1 - p) := by
  apply List.ext_getElem?
  intro p
  rcases Nat.lt_or_ge p w with hlt | hge
  · rw [bitsOf_getElem? v hlt]
    simp [hlt]
  · rw [List.getElem?_eq_none (by simpa using hge), List.getElem?_eq_none (by simpa using hge)]

end Sys2Proof

namespace Sys2Proof.Machine

/-- The substring of a frame that starts at a position (R8). -/
def frameField (f : BitVec 41) (start len : Nat) : Bits := (List.range len).map fun i => memReadFrame f (start + i)

/-- The register FRAME holds the string, position by position (R34). -/
theorem getElem?_eq_memReadFrame_frameRegister {str : Bits} (hlen : str.length = 41) {i : Nat} (hi : i < 41) :
    str[i]? = some (memReadFrame (frameRegister str) i) := by
  have hbit : 40 - i < 41 := by omega
  rw [getElem?_eq_testBit_valOf str (by omega), memReadFrame, frameRegister, BitVec.getLsbD_ofNat, hlen]
  simp [hbit]

/-- A substring of the register is the field of the string. -/
theorem frameField_frameRegister {str : Bits} (hlen : str.length = 41) {start len : Nat} (h : start + len ≤ 41) :
    frameField (frameRegister str) start len = field start len str := by
  apply List.ext_getElem?
  intro i
  rcases Nat.lt_or_ge i len with hlt | hge
  · rw [field_getElem? str hlt, getElem?_eq_memReadFrame_frameRegister hlen (by omega)]
    simp [frameField, hlt]
  · rw [List.getElem?_eq_none (by simpa [frameField] using hge), List.getElem?_eq_none (by simp; omega)]

section InRange
variable {base idx : Nat} {pid act : Bits}

/-- The concatenation with index and counter in range (R77). -/
theorem frameString_of_lt (hidx : idx < 2 ^ 4) (hctr : base + idx < 2 ^ 9) (pid act : Bits) :
    frameString base idx pid act = [false, false, false] ++ bitsOf 4 idx ++ pid ++
      [false, false, false, false, false, false] ++ bitsOf 9 (base + idx) ++ act := by
  rw [frameString, counterValue, encodeUnsigned_of_lt hidx, encodeUnsigned_of_lt hctr]

variable (hidx : idx < 2 ^ 4) (hctr : base + idx < 2 ^ 9) (hpid : pid.length = 17) (hact : act.length = 2)
include hidx hctr hpid hact

/-- A substring of the register holds the field of the concatenation (R77, R78). -/
theorem frameField_frameString {start len : Nat} (h : start + len ≤ 41) :
    frameField (frameRegister (frameString base idx pid act)) start len =
      field start len ([false, false, false] ++ bitsOf 4 idx ++ pid ++ [false, false, false, false, false, false] ++
        bitsOf 9 (base + idx) ++ act) := by
  rw [frameField_frameRegister (by simp [hpid, hact]) h, frameString_of_lt hidx hctr]

/-- The index substring of the register decodes to the index (R46, R82). -/
theorem valOf_frameField_frameString_index :
    valOf (frameField (frameRegister (frameString base idx pid act)) 3 4) = idx := by
  rw [frameField_frameString hidx hctr hpid hact (by decide)]
  simp (disch := simp [hpid]) only [field_append_left, field_append_right]
  simp [field_all, valOf_bitsOf_of_lt hidx]

/-- The protocol id's substring of the register holds the operand. -/
theorem frameField_frameString_protocolId : frameField (frameRegister (frameString base idx pid act)) 7 17 = pid := by
  rw [frameField_frameString hidx hctr hpid hact (by decide)]
  simp (disch := simp [hpid]) only [field_append_left, field_append_right]
  simp [field_all, hpid]

/-- The counter substring of the register decodes to the exact sum (R76, R82). -/
theorem valOf_frameField_frameString_counter :
    valOf (frameField (frameRegister (frameString base idx pid act)) 30 9) = base + idx := by
  rw [frameField_frameString hidx hctr hpid hact (by decide)]
  simp (disch := simp [hpid]) only [field_append_left, field_append_right]
  simp [field_all, hpid, valOf_bitsOf_of_lt hctr]

/-- The action's substring of the register holds the operand. -/
theorem frameField_frameString_action : frameField (frameRegister (frameString base idx pid act)) 39 2 = act := by
  rw [frameField_frameString hidx hctr hpid hact (by decide)]
  simp (disch := simp [hpid]) only [field_append_right]
  simp [field_all, hpid, hact]

/-- BUILD's frame is R46's layout of its operands (R77). -/
theorem frameRegister_frameString_eq_frameOfFields :
    frameRegister (frameString base idx pid act) =
      frameOfFields (BitVec.ofNat 4 idx) (BitVec.ofNat 17 (valOf pid)) (BitVec.ofNat 9 (base + idx))
        (BitVec.ofNat 2 (valOf act)) := by
  have hp : valOf pid < 2 ^ 17 := hpid ▸ valOf_lt pid
  have ha : valOf act < 2 ^ 2 := hact ▸ valOf_lt act
  apply BitVec.eq_of_toNat_eq
  rw [toNat_frameOfFields, frameRegister, BitVec.toNat_ofNat, valOf_frameString hidx hctr hact hpid]
  simp only [BitVec.toNat_ofNat, Nat.mod_eq_of_lt hidx, Nat.mod_eq_of_lt hctr, Nat.mod_eq_of_lt hp, Nat.mod_eq_of_lt ha]
  omega

/-- The number of BUILD's frame is R46's integer form of its operands. -/
theorem toNat_frameRegister_frameString :
    (frameRegister (frameString base idx pid act)).toNat = frameInteger idx (valOf pid) (base + idx) (valOf act) := by
  have hp : valOf pid < 2 ^ 17 := hpid ▸ valOf_lt pid
  have ha : valOf act < 2 ^ 2 := hact ▸ valOf_lt act
  rw [frameRegister_frameString_eq_frameOfFields hidx hctr hpid hact, toNat_frameOfFields_eq_frameInteger]
  simp only [BitVec.toNat_ofNat, Nat.mod_eq_of_lt hidx, Nat.mod_eq_of_lt hctr, Nat.mod_eq_of_lt hp, Nat.mod_eq_of_lt ha]

end InRange

end Sys2Proof.Machine
end

section
/-! SUPPORT. BUILD run by itself: its checks on the operands, the cause they give, and its two answers
(spec/41_frame_builder.md R75 to R81). -/

namespace Sys2Proof.Machine

variable {base idx : Nat} {pid act : Bits} {s t : State}

/-- What BUILD writes into the flags, and that it writes nothing else (R75). -/
theorem writeFlags_buildChecks (base idx : Nat) (pid act : Bits) (s : State) :
    writeFlags (buildChecks base idx pid act) s =
      { s with
          errIdx := decide (16 ≤ idx)
          errCtr := decide (512 ≤ base + idx)
          errLen := decide (pid.length + act.length ≠ 19) } := by
  rw [writeFlags, buildChecks_eIdx, buildChecks_eCtr, buildChecks_eLen]

/-- The cause BUILD reports, in the operands: the first failed check in R80's order. -/
theorem causeOfChecks_buildChecks (base idx : Nat) (pid act : Bits) :
    causeOfChecks (buildChecks base idx pid act) =
      if 16 ≤ idx then some .idxRange
      else if 512 ≤ base + idx then some .ctrRange
      else if pid.length + act.length ≠ 19 then some .len
      else none := by
  simp [causeOfChecks]

/-- BUILD's checks pass exactly on its legal domain (R75, R78). -/
theorem causeOfChecks_buildChecks_eq_none_iff :
    causeOfChecks (buildChecks base idx pid act) = none ↔
      idx < 16 ∧ base + idx < 512 ∧ pid.length + act.length = 19 := by
  rw [causeOfChecks_buildChecks]
  split
  next hidx => simp; omega
  next hidx =>
    split
    next hctr => simp; omega
    next hctr => simp; omega

/-- BUILD where all checks pass returns the frame (R75, R77). -/
theorem exec_build_of_passed (h : causeOfChecks (buildChecks base idx pid act) = none) (s : State) :
    exec (.build base idx pid act) s =
      .next (returnValue (.frame (frameRegister (frameString base idx pid act)))
        (writeFlags (buildChecks base idx pid act) s)) := by
  simp [exec, execBuild, h]

/-- BUILD where a check fails returns its cause and no frame (R79). -/
theorem exec_build_of_failed {e : Cause} (h : causeOfChecks (buildChecks base idx pid act) = some e) (s : State) :
    exec (.build base idx pid act) s =
      .next (returnValue (.constructionError e) (writeFlags (buildChecks base idx pid act) s)) := by
  simp [exec, execBuild, h]

/-- Inversion of a BUILD that returned a frame: the checks passed, and the frame is that of the operands (R79). -/
theorem passed_of_ret_eq_frame {f : BitVec 41} (hexec : exec (.build base idx pid act) s = .next t)
    (hret : t.ret = .frame f) :
    causeOfChecks (buildChecks base idx pid act) = none ∧ f = frameRegister (frameString base idx pid act) := by
  cases hcause : causeOfChecks (buildChecks base idx pid act) with
  | some e =>
    rw [exec_build_of_failed hcause] at hexec
    cases hexec
    simp at hret
  | none =>
    rw [exec_build_of_passed hcause] at hexec
    cases hexec
    exact ⟨rfl, by simpa using hret.symm⟩

end Sys2Proof.Machine
end

section
/-! THEOREM. BUILD: the frame of operands in range and what can be read back from it, and the refusal of all others
(spec/41_frame_builder.md R75 to R82). -/

namespace Sys2Proof.Machine

/-- Settles O9: the checks pass, so the flags are clear, and the register holds the concatenation position by position. -/
theorem buildReturnsFrame : Obligations.BuildReturnsFrame := by
  unfold Obligations.BuildReturnsFrame
  intro base idx pid act s hidx hctr hlen
  have hctr' : base + idx < 512 := by omega
  have hpassed := causeOfChecks_buildChecks_eq_none_iff.mpr ⟨hidx, hctr', hlen⟩
  have hlen' : (frameString base idx pid act).length = 41 := by simp; omega
  refine ⟨frameRegister (frameString base idx pid act), frameString base idx pid act, ?answer, ?concatenation, hlen',
    fun _ => getElem?_eq_memReadFrame_frameRegister hlen'⟩
  case answer =>
    rw [exec_build_of_passed hpassed, writeFlags_buildChecks]
    simp [returnValue, Nat.not_le.mpr hidx, Nat.not_le.mpr hctr', hlen]
  case concatenation =>
    rw [frameString_of_lt hidx hctr', bitsOf_eq_map_testBit 9]
    rfl

/-- Settles O10: each substring of the register is its field of the concatenation, and the register is R46's layout. -/
theorem builtFrameDecodes : Obligations.BuiltFrameDecodes := by
  unfold Obligations.BuiltFrameDecodes
  intro base idx pid act s hidx hctr hpid hact
  have hctr' : base + idx < 2 ^ 9 := by omega
  have hpassed : causeOfChecks (buildChecks base idx pid act) = none :=
    causeOfChecks_buildChecks_eq_none_iff.mpr ⟨hidx, hctr', by omega⟩
  refine ⟨_, frameRegister (frameString base idx pid act), exec_build_of_passed hpassed s, rfl,
    valOf_frameField_frameString_counter hidx hctr' hpid hact, valOf_frameField_frameString_index hidx hctr' hpid hact,
    frameField_frameString_protocolId hidx hctr' hpid hact, frameField_frameString_action hidx hctr' hpid hact,
    ?reserved, toNat_frameRegister_frameString hidx hctr' hpid hact⟩
  case reserved =>
    rw [frameRegister_frameString_eq_frameOfFields hidx hctr' hpid hact]
    exact reservedZero_frameOfFields _ _ _ _

/-- Settles O12: a returned frame is the frame of operands in range (R79), and its substrings give the operands back. -/
theorem buildIsInjective : Obligations.BuildIsInjective := by
  unfold Obligations.BuildIsInjective
  intro b b' d d' p p' a a' s s' t t' f hp hp' ha ha' hexec hexec' hret hret'
  obtain ⟨hpassed, rfl⟩ := passed_of_ret_eq_frame hexec hret
  obtain ⟨hpassed', hframe⟩ := passed_of_ret_eq_frame hexec' hret'
  obtain ⟨hd, hc, -⟩ := causeOfChecks_buildChecks_eq_none_iff.mp hpassed
  obtain ⟨hd', hc', -⟩ := causeOfChecks_buildChecks_eq_none_iff.mp hpassed'
  have hidx : d = d' := by
    rw [← valOf_frameField_frameString_index hd hc hp ha, hframe, valOf_frameField_frameString_index hd' hc' hp' ha']
  have hctr : b + d = b' + d' := by
    rw [← valOf_frameField_frameString_counter hd hc hp ha, hframe, valOf_frameField_frameString_counter hd' hc' hp' ha']
  have hpid : p = p' := by
    rw [← frameField_frameString_protocolId hd hc hp ha, hframe, frameField_frameString_protocolId hd' hc' hp' ha']
  have hact : a = a' := by
    rw [← frameField_frameString_action hd hc hp ha, hframe, frameField_frameString_action hd' hc' hp' ha']
  exact ⟨by omega, hidx, hpid, hact⟩

/-- Settles O11: the reported cause is the first failed check, and all three flags are written. -/
theorem buildFailsClosed : Obligations.BuildFailsClosed := by
  unfold Obligations.BuildFailsClosed
  rintro base idx pid act s cause hfails rfl
  have hcause : causeOfChecks (buildChecks base idx pid act) =
      some (if 16 ≤ idx then .idxRange else if 512 ≤ base + idx then .ctrRange else .len) := by
    rw [causeOfChecks_buildChecks]
    split
    next => rfl
    next hidx =>
      split
      next => rfl
      next hctr => rw [if_pos (by tauto)]
  rw [exec_build_of_failed hcause, writeFlags_buildChecks, returnValue]

end Sys2Proof.Machine
end

section
/-! SUPPORT. RESOLVE: its mapping by the action, and its answers when it is run by itself (spec/41_frame_builder.md R83, R84). -/

namespace Sys2Proof.Machine

variable {action : BitVec 2} {idx : BitVec 4} {rep : BitVec 8} {s : State}

/-- The command of an action: its base and code, with PROTOCOL_ID (R83). -/
def commandOf (cfg : Configuration) (a : Action) (idx : BitVec 4) (rep : BitVec 8) : Cmd where
  base := baseOf cfg a
  idx := idx
  pid := cfg.protocolId
  act := codeOf cfg a
  rep := rep

/-- Outside index 1 the action stays its own (R84). -/
theorem effectiveAction_of_ne (h : idx ≠ 1#4) (a : Action) : effectiveAction idx a = a := by
  simp [effectiveAction, h]

/-- PAUSE stays PAUSE at every index (R84). -/
theorem effectiveAction_pause (idx : BitVec 4) : effectiveAction idx .pause = .pause := by
  simp [effectiveAction]

/-- RESOLVE of a code that names an action is the command of the effective action (R83, R84). -/
theorem resolveCmd_of_action {a : Action} (cfg : Configuration) (hcode : actionOfCode action = some a)
    (idx : BitVec 4) (rep : BitVec 8) :
    resolveCmd cfg ⟨action, idx, rep⟩ = some (commandOf cfg (effectiveAction idx a) idx rep) := by
  simp [resolveCmd, hcode, commandOf]

/-- RESOLVE refuses the fourth action code (R83). -/
theorem resolveCmd_three (cfg : Configuration) (idx : BitVec 4) (rep : BitVec 8) :
    resolveCmd cfg ⟨3#2, idx, rep⟩ = none := rfl

/-- RESOLVE run by itself returns the command (R83; log 11). -/
theorem exec_resolve_of_some {c : Cmd} (hbuilt : s.cfg.hasResolve = true)
    (hres : resolveCmd s.cfg ⟨action, idx, rep⟩ = some c) :
    exec (.resolve action idx rep) s = .next (returnValue (.cmd c) s) := by
  simp [exec, execResolve, hbuilt, hres]

/-- RESOLVE run by itself on a code that names no action returns ConstructionError(NONE) (R83; log 11). -/
theorem exec_resolve_of_none (hbuilt : s.cfg.hasResolve = true)
    (hres : resolveCmd s.cfg ⟨action, idx, rep⟩ = none) :
    exec (.resolve action idx rep) s = .next (returnValue (.constructionError .none) s) := by
  simp [exec, execResolve, hbuilt, hres]

/-- RESOLVE where it is not built (log 12). -/
theorem exec_resolve_of_absent (habsent : s.cfg.hasResolve = false) (action : BitVec 2) (idx : BitVec 4)
    (rep : BitVec 8) : exec (.resolve action idx rep) s = .refused .resolveNotBuilt := by
  simp [exec, execResolve, habsent]

/-- RESOLVE of an action returns the effective action's command and does nothing else (R83, R84). -/
theorem exec_resolve_of_action {a b : Action} (hbuilt : s.cfg.hasResolve = true)
    (hcode : actionOfCode action = some a) (heff : effectiveAction idx a = b) :
    exec (.resolve action idx rep) s = .next { s with ret := .cmd (commandOf s.cfg b idx rep) } :=
  heff ▸ exec_resolve_of_some hbuilt (resolveCmd_of_action s.cfg hcode idx rep)

/-- Inversion of a RESOLVE that returned a command: the unit is built, and the command is the mapping's (R83). -/
theorem resolveCmd_of_exec_resolve {c : Cmd} (h : exec (.resolve action idx rep) s = .next { s with ret := .cmd c }) :
    s.cfg.hasResolve = true ∧ resolveCmd s.cfg ⟨action, idx, rep⟩ = some c := by
  cases hbuilt : s.cfg.hasResolve with
  | false => simp [exec_resolve_of_absent hbuilt] at h
  | true =>
    refine ⟨rfl, ?_⟩
    cases hres : resolveCmd s.cfg ⟨action, idx, rep⟩ with
    | none => simp [exec_resolve_of_none hbuilt hres, returnValue] at h
    | some d => simpa [exec_resolve_of_some hbuilt hres, returnValue] using h

end Sys2Proof.Machine
end

section
/-! SUPPORT. Acceptance of a command as a whole next state, valid and invalid (spec/42_waveform_sequencer.md R91 to R93). -/

namespace Sys2Proof.Machine

variable {c : Cmd}

/-- BUILD's flags of a command at the port's widths: only the counter can be out of range (R19). -/
theorem cmdChecks_eq (c : Cmd) :
    cmdChecks c = { eIdx := false, eCtr := decide (512 ≤ c.base.toNat + c.idx.toNat), eLen := false } := by
  have hctr : (cmdChecks c).eCtr = decide (512 ≤ c.base.toNat + c.idx.toNat) := by simp [cmdChecks]
  change BuildChecks.mk (cmdChecks c).eIdx (cmdChecks c).eCtr (cmdChecks c).eLen = _
  rw [cmdChecks_eIdx, hctr, cmdChecks_eLen]

/-- The cause of a command that fails validation, CTR_RANGE before REP_ZERO (R80, R92). -/
theorem validationCause_of_not_cmdValid (h : ¬ cmdValid c) :
    validationCause (cmdChecks c) c.rep =
      some (if 512 ≤ c.base.toNat + c.idx.toNat then .ctrRange else .repZero) := by
  rw [cmdChecks_eq, validationCause, causeOfChecks]
  by_cases hctr : 512 ≤ c.base.toNat + c.idx.toNat
  · simp [hctr]
  · have hrep : c.rep = 0#8 := by
      by_contra hne
      exact h ⟨by omega, hne⟩
    simp [hctr, hrep]

/-- Acceptance of a valid command (R93, the first row). -/
theorem acceptCommand_of_cmdValid (h : cmdValid c) (s : State) : acceptCommand c s = acceptedState c s := by
  obtain ⟨e, hcause, -⟩ | ⟨-, heq⟩ := acceptCommand_cases c s
  · simp [(validationCause_eq_none c).mpr h] at hcause
  · obtain ⟨hctr, -⟩ := h
    have hflag : ¬ 512 ≤ c.base.toNat + c.idx.toNat := by omega
    rw [heq, cmdChecks_eq, cmdFrame_eq_frameOfFields hctr]
    simp [acceptedState, issueEnter, emit, writeFlags, latchOperands, hflag]

/-- Acceptance of an invalid command (R93, the second row). -/
theorem acceptCommand_of_not_cmdValid (h : ¬ cmdValid c) (s : State) : acceptCommand c s = rejectedState c s := by
  obtain ⟨e, hcause, heq⟩ | ⟨hnone, -⟩ := acceptCommand_cases c s
  · obtain rfl : (if 512 ≤ c.base.toNat + c.idx.toNat then .ctrRange else .repZero) = e := by
      simpa [validationCause_of_not_cmdValid h] using hcause
    rw [heq, cmdChecks_eq, raiseError, writeFlags, latchOperands, rejectedState]
  · exact absurd ((validationCause_eq_none c).mp hnone) h

/-- Acceptance of an RCMD that RESOLVE maps to a command is that command's acceptance (R83). -/
theorem acceptResolved_of_some {r : RCmd} {s : State} (h : resolveCmd s.cfg r = some c) :
    acceptResolved r s = acceptCommand c s := by
  simp [acceptResolved, h]

/-- An RCMD whose code names no action takes the FAILED path with cause NONE (R83, R131; log 11). -/
theorem acceptResolved_of_none {r : RCmd} {s : State} (h : resolveCmd s.cfg r = none) :
    acceptResolved r s = raiseError .constructionError .none { s with done := false } := by
  simp [acceptResolved, h]

/-- An RCMD presented in IDLE where RESOLVE is built (R83; log 11). -/
theorem stepIdle_of_rcmd_built {p : PortSample} {r : RCmd} {s : State} (hcmd : p.cmd = some (.rcmd r))
    (hbuilt : s.cfg.hasResolve = true) : stepIdle p s = .next (acceptResolved r s) := by
  simp [stepIdle, hcmd, hbuilt]

/-- An RCMD presented in IDLE where RESOLVE is not built (log 12). -/
theorem stepIdle_of_rcmd_absent {p : PortSample} {r : RCmd} {s : State} (hcmd : p.cmd = some (.rcmd r))
    (habsent : s.cfg.hasResolve = false) : stepIdle p s = .next s := by
  simp [stepIdle, hcmd, habsent]

/-- A step in IDLE without a reset is IDLE's transition on the script's next sample (R93). -/
theorem step_of_idle {s : State} {p : PortSample} {rest : List PortSample} (hslot : s.slot = none) (hst : s.st = .idle)
    (hinputs : s.inputs = p :: rest) (hrst : p.rst = false) : step s = stepIdle p (dropSample (clearPulses s)) := by
  rw [step_of_empty hslot, samplePorts_of_inputs hinputs]
  simp [fsmStep, hrst, hst]

end Sys2Proof.Machine
end

section
/-! THEOREM. RESOLVE run by itself, and the command form of the RESOLVE front end at the port (spec/41_frame_builder.md R83,
R84). -/

namespace Sys2Proof.Machine

/-- Settles O13, by the action code and, for RAISE and LOWER, by the index being 1 or not. -/
theorem resolveMapsActions : Obligations.ResolveMapsActions := by
  unfold Obligations.ResolveMapsActions
  rintro idx rep s _ _ _ hbuilt rfl rfl rfl
  refine ⟨?raise, ?lower, ?raiseAtOne, ?lowerAtOne, ?pause, ?refusedCode⟩
  case raise => exact fun hne => exec_resolve_of_action hbuilt (a := .raise) rfl (effectiveAction_of_ne hne _)
  case lower => exact fun hne => exec_resolve_of_action hbuilt (a := .lower) rfl (effectiveAction_of_ne hne _)
  case raiseAtOne => rintro rfl; exact exec_resolve_of_action hbuilt (a := .raise) (b := .lower) rfl rfl
  case lowerAtOne => rintro rfl; exact exec_resolve_of_action hbuilt (a := .lower) (b := .raise) rfl rfl
  case pause => exact exec_resolve_of_action hbuilt rfl (effectiveAction_pause idx)
  case refusedCode => exact exec_resolve_of_none hbuilt (resolveCmd_three s.cfg idx rep)

/-- Settles O14: the unit is absent. -/
theorem resolveAbsentIsRefused : Obligations.ResolveAbsentIsRefused := by
  unfold Obligations.ResolveAbsentIsRefused
  intro action idx rep s habsent
  exact exec_resolve_of_absent habsent action idx rep

/-- Settles O15: the step is RESOLVE's answer, accepted, and acceptance of a command is known whole. -/
theorem resolvedCommandIsAccepted : Obligations.ResolvedCommandIsAccepted := by
  unfold Obligations.ResolvedCommandIsAccepted
  intro s q p rest r c hslot hst hinputs hrst hcmd hq
  have hstep : step s = stepIdle p q := by
    rw [step_of_idle hslot hst hinputs hrst, hq, dropSample, clearPulses, hinputs, List.tail_cons]
  have hcfg : q.cfg = s.cfg := by rw [hq]
  have haccept (hexec : exec (.resolve r.action r.idx r.rep) s = .next { s with ret := .cmd c }) :
      step s = .next (acceptCommand c q) := by
    obtain ⟨hbuilt, hres⟩ := resolveCmd_of_exec_resolve hexec
    rw [hstep, stepIdle_of_rcmd_built hcmd (hcfg ▸ hbuilt), acceptResolved_of_some (hcfg ▸ hres)]
  refine ⟨?valid, ?invalid, ?refusedCode, ?absent⟩
  case valid =>
    intro hexec hvalid
    rw [haccept hexec, acceptCommand_of_cmdValid hvalid]
  case invalid =>
    intro hexec hinvalid
    rw [haccept hexec, acceptCommand_of_not_cmdValid hinvalid]
  case refusedCode =>
    intro hbuilt haction
    have hres : resolveCmd q.cfg r = none := by
      obtain ⟨_, idx, rep⟩ := r
      cases haction
      exact resolveCmd_three q.cfg idx rep
    rw [hstep, stepIdle_of_rcmd_built hcmd (hcfg ▸ hbuilt), acceptResolved_of_none hres, raiseError]
  case absent =>
    intro habsent
    rw [hstep, stepIdle_of_rcmd_absent hcmd (hcfg ▸ habsent)]

end Sys2Proof.Machine
end

section
/-! SUPPORT. The burst as a list of segments (spec/42_waveform_sequencer.md R95, R96): the segment at each position, the
list by the nested loops, and the sum over a burst of any weight on the kinds of segment, from which every count of R107 and
every duration of R108 follows. -/

namespace Sys2Proof.Machine

variable (f : BitVec 41)

/-! ### The segment at a position -/

/-- The segments repeat with period 88 (R96). -/
theorem segAt_mul_add (r j : Nat) : segAt f (88 * r + j) = segAt f j := by
  simp only [segAt, Nat.mul_add_mod]

/-- The six positions of a sync burst are pairs of SYNC_H and SYNC_L (R96, R104): the first of each pair. -/
theorem segAt_sync_high {i : Nat} (h : i < 3) : segAt f (2 * i) = .syncH := by
  have hj : 2 * i % 88 = 2 * i := by omega
  have hlt : 2 * i < 6 := by omega
  simp [segAt, hj, hlt]

/-- The second of each pair. -/
theorem segAt_sync_low {i : Nat} (h : i < 3) : segAt f (2 * i + 1) = .syncL := by
  have hj : (2 * i + 1) % 88 = 2 * i + 1 := by omega
  have hlt : 2 * i + 1 < 6 := by omega
  have hodd : (2 * i + 1) % 2 = 1 := by omega
  simp [segAt, hj, hlt, hodd]

/-- The 82 positions after it are pairs of a bit's high time and the gap (R96, R105): the high time. -/
theorem segAt_bit_high {b : Nat} (h : b < 41) : segAt f (6 + 2 * b) = bitKind (memReadFrame f b) := by
  have hj : (6 + 2 * b) % 88 = 6 + 2 * b := by omega
  have hge : ¬ 6 + 2 * b < 6 := by omega
  simp [segAt, hj, hge]

/-- The gap of each pair. -/
theorem segAt_bit_low {b : Nat} (h : b < 41) : segAt f (6 + 2 * b + 1) = .gapL := by
  have hj : (6 + 2 * b + 1) % 88 = 6 + 2 * b + 1 := by omega
  have hge : ¬ 6 + 2 * b + 1 < 6 := by omega
  have hodd : ¬ (6 + 2 * b + 1 - 6) % 2 = 0 := by omega
  simp only [segAt, hj, hge, hodd, if_false]

/-! ### The flat list and the nested one -/

/-- A list over `2 n` positions is one of `n` pairs. -/
theorem map_range_two_mul {α : Type} (g : Nat → α) (n : Nat) :
    (List.range (2 * n)).map g = (List.range n).flatMap fun i => [g (2 * i), g (2 * i + 1)] := by
  induction n with
  | zero => rfl
  | succ n ih => simp [Nat.mul_succ, List.range_succ, ih]

/-- The first six segments are a sync burst (R96, R104). -/
theorem map_segAt_range_six : (List.range 6).map (segAt f) = syncBurst := rfl

/-- The 82 segments after a sync burst are the cells of the frame (R96, R106). -/
theorem map_segAt_frame : (List.range 82).map (fun j => segAt f (6 + j)) = frameCells f := by
  rw [frameCells, map_range_two_mul _ 41]
  refine List.flatMap_congr fun b hb => ?_
  have hlt : b < 41 := List.mem_range.mp hb
  rw [bitCell, segAt_bit_high f hlt, ← Nat.add_assoc, segAt_bit_low f hlt]

/-- One repetition: 88 segments (R96, R107). -/
theorem map_segAt_range_88 : (List.range 88).map (segAt f) = syncBurst ++ frameCells f := by
  rw [show 88 = 6 + 82 from rfl, List.range_add, List.map_append, List.map_map, map_segAt_range_six]
  exact congrArg (syncBurst ++ ·) (map_segAt_frame f)

/-- `n` repetitions and one more sync burst, by the flat counter and by the nested loops (R95, R96). -/
theorem map_segAt_range_eq_nested (n : Nat) :
    (List.range (88 * n + 6)).map (segAt f) = (List.replicate n (syncBurst ++ frameCells f)).flatten ++ syncBurst := by
  induction n with
  | zero => rfl
  | succ n ih =>
    have hshift : segAt f ∘ (88 + ·) = segAt f := funext fun j => segAt_mul_add f 1 j
    calc (List.range (88 * (n + 1) + 6)).map (segAt f)
        = (List.range 88).map (segAt f) ++ (List.range (88 * n + 6)).map (segAt f) := by
          rw [show 88 * (n + 1) + 6 = 88 + (88 * n + 6) by omega, List.range_add, List.map_append, List.map_map, hshift]
      _ = (List.replicate (n + 1) (syncBurst ++ frameCells f)).flatten ++ syncBurst := by
          rw [map_segAt_range_88, ih, List.replicate_succ, List.flatten_cons, List.append_assoc,
            List.append_assoc, List.append_assoc]

/-- The flat counter's burst is the nested loops' (R95). -/
theorem burstKinds_eq_nestedBurst (rep : BitVec 8) : burstKinds f rep = nestedBurst f rep :=
  map_segAt_range_eq_nested f rep.toNat

/-! ### Sums over a burst -/

theorem onesIn_le : onesIn f ≤ 41 := by
  simpa [onesIn] using List.length_filter_le (memReadFrame f) (List.range 41)

/-- The sum over the cells of some positions: a gap for each, and each bit's high time by its value (R105). -/
theorem sum_map_cells (w : SegKind → Nat) (l : List Nat) :
    ((l.flatMap fun i => bitCell (memReadFrame f i)).map w).sum =
      l.length * w .gapL + (l.filter (memReadFrame f)).length * w .bit1H +
        (l.length - (l.filter (memReadFrame f)).length) * w .bit0H := by
  induction l with
  | nil => simp
  | cons i l ih =>
    have hle := List.length_filter_le (memReadFrame f) l
    rw [List.flatMap_cons, List.map_append, List.sum_append, ih]
    cases hbit : memReadFrame f i with
    | true => simp [bitCell, bitKind, hbit]; ring
    | false => simp [bitCell, bitKind, hbit, Nat.sub_add_comm hle]; ring

/-- The sum over a frame (R106). -/
theorem sum_map_frameCells (w : SegKind → Nat) :
    ((frameCells f).map w).sum = 41 * w .gapL + onesIn f * w .bit1H + (41 - onesIn f) * w .bit0H := by
  rw [frameCells, sum_map_cells, List.length_range, onesIn]

/-- The sum over a sync burst (R104). -/
theorem sum_map_syncBurst (w : SegKind → Nat) : (syncBurst.map w).sum = 3 * (w .syncH + w .syncL) := by
  simp [syncBurst]; ring

/-- The sum over a burst: REP repetitions and one more sync burst (R95, R107, R108). -/
theorem sum_map_burstKinds (w : SegKind → Nat) (rep : BitVec 8) :
    ((burstKinds f rep).map w).sum =
      rep.toNat * (3 * (w .syncH + w .syncL) +
        (41 * w .gapL + onesIn f * w .bit1H + (41 - onesIn f) * w .bit0H)) + 3 * (w .syncH + w .syncL) := by
  simp [burstKinds_eq_nestedBurst, nestedBurst, List.sum_flatten, List.map_flatten, sum_map_syncBurst, sum_map_frameCells]

/-- How often a kind occurs is a sum of weights 0 and 1. -/
theorem count_eq_sum_map (k : SegKind) (ks : List SegKind) : ks.count k = (ks.map fun x => [x].count k).sum := by
  induction ks with
  | nil => rfl
  | cons x ks ih => rw [List.map_cons, List.sum_cons, ← ih, ← List.count_append, List.singleton_append]

/-- Half of a burst's segments are high and half low (R103, R107): the sum where the weight depends on the level alone. -/
theorem sum_map_burstKinds_of_level {w : SegKind → Nat} {high low : Nat}
    (hw : ∀ k : SegKind, w k = if k.level then high else low) (rep : BitVec 8) :
    ((burstKinds f rep).map w).sum = (44 * rep.toNat + 3) * (high + low) := by
  have hbits : onesIn f * high + (41 - onesIn f) * high = 41 * high := by
    rw [← Nat.add_mul, Nat.add_sub_cancel' (onesIn_le f)]
  calc ((burstKinds f rep).map w).sum
      = rep.toNat * (3 * (high + low) + (41 * low + onesIn f * high + (41 - onesIn f) * high)) + 3 * (high + low) := by
        rw [sum_map_burstKinds, hw, hw, hw, hw, hw]; rfl
    _ = (44 * rep.toNat + 3) * (high + low) := by
        rw [Nat.add_assoc (41 * low), hbits]; ring

/-! ### Ones and durations -/

/-- The duration of a burst (R108). -/
theorem totalTime_burstKinds (tt : TimingTable) (rep : BitVec 8) :
    totalTime tt (burstKinds f rep) =
      rep.toNat * (3 * (tt.syncHigh.toNat + tt.syncLow.toNat) + 41 * tt.gap.toNat + (41 - onesIn f) * tt.zero.toNat +
        onesIn f * tt.one.toNat) + 3 * (tt.syncHigh.toNat + tt.syncLow.toNat) := by
  rw [totalTime, sum_map_burstKinds]
  simp only [TimingTable.entry]
  ring

/-- The duration of a burst with the documented table (R5, R108). -/
theorem totalTime_documented_burstKinds (rep : BitVec 8) :
    totalTime .documented (burstKinds f rep) =
      rep.toNat * (54750 + 642 * (41 - onesIn f) + 1300 * onesIn f) + 24000 := by
  rw [totalTime_burstKinds]
  change rep.toNat * (3 * (4000 + 4000) + 41 * 750 + (41 - onesIn f) * 642 + onesIn f * 1300) + 3 * (4000 + 4000) = _
  ring

/-- With the reserved positions 0, at most the other 32 hold a 1 (R48, R108). -/
theorem onesIn_le_of_reservedZero (h : reservedZero f) : onesIn f ≤ 32 := by
  have hfree : ∀ i ∈ List.range 41, memReadFrame f i = true → decide (¬ (i < 3 ∨ (24 ≤ i ∧ i < 30))) = true := by
    intro i _ hone
    rw [decide_eq_true_eq]
    intro hres
    simp [h i hres] at hone
  calc onesIn f
      = (List.range 41).countP (memReadFrame f) := List.countP_eq_length_filter.symm
    _ ≤ (List.range 41).countP fun i => decide (¬ (i < 3 ∨ (24 ≤ i ∧ i < 30))) := List.countP_mono_left hfree
    _ = 32 := by decide

end Sys2Proof.Machine
end

section
/-! THEOREM. The burst: its segments by position, its levels, the nested loops, its counts and its duration. -/

namespace Sys2Proof.Machine

/-- Settles O36: the position inside its repetition decides the segment, and only the last six positions of a burst lie
past repetition REP - 1. -/
theorem segmentAtEachPosition : Obligations.SegmentAtEachPosition := by
  unfold Obligations.SegmentAtEachPosition
  intro f rep r
  refine ⟨fun i hi => ⟨?_, ?_⟩, fun b hb => ⟨?_, ?_⟩, fun k hk hframe => ?_⟩
  · rw [segAt_mul_add, segAt_sync_high f hi]
  · rw [Nat.add_assoc, segAt_mul_add, segAt_sync_low f hi]
  · rw [Nat.add_assoc, segAt_mul_add, segAt_bit_high f hb, bitKind]
  · rw [Nat.add_assoc, Nat.add_assoc, segAt_mul_add, ← Nat.add_assoc, segAt_bit_low f hb]
  · rw [nseg] at hk
    omega

/-- Settles O37: the level is the parity of the position, and NSEG is even. -/
theorem levelAlternates : Obligations.LevelAlternates := by
  unfold Obligations.LevelAlternates
  intro f rep k
  refine ⟨by simp [segAt_level], fun heq => ?_, rfl, ?_⟩
  · rw [segAt_level, segAt_level, decide_eq_decide] at heq
    omega
  · rw [segAt_level, nseg, decide_eq_false_iff_not]
    omega

/-- Settles O38, by induction on the repetitions. -/
theorem flatBurstIsNestedLoops : Obligations.FlatBurstIsNestedLoops := by
  unfold Obligations.FlatBurstIsNestedLoops
  exact burstKinds_eq_nestedBurst

/-- Settles O39: each count of segments is a sum of weights over the burst, and each count of calls one whose weights
depend on the level alone. -/
theorem burstCounts : Obligations.BurstCounts := by
  unfold Obligations.BurstCounts
  intro tt f rep
  refine ⟨by simp [burstKinds, nseg], ?syncH, ?syncL, ?bit1H, ?bit0H, ?gapL, ?high, ?low, ?sleep⟩
  case syncH | syncL | gapL =>
    rw [count_eq_sum_map, sum_map_burstKinds]
    simp
    ring
  case bit1H | bit0H =>
    rw [count_eq_sum_map, sum_map_burstKinds]
    simp
  case high =>
    rw [burstEvents, List.count_flatMap, sum_map_burstKinds_of_level f (high := 1) (low := 0) (by rintro ⟨⟩ <;> rfl)]
    ring
  case low =>
    rw [burstEvents, List.count_flatMap, sum_map_burstKinds_of_level f (high := 0) (low := 1) (by rintro ⟨⟩ <;> rfl)]
    ring
  case sleep =>
    rw [burstEvents, List.countP_flatMap, sum_map_burstKinds_of_level f (high := 1) (low := 1) (by rintro ⟨⟩ <;> rfl)]
    ring

/-- Settles O40: the duration is a sum of weights over the burst; the bounds are those of the number of ones and of REP. -/
theorem burstDuration : Obligations.BurstDuration := by
  unfold Obligations.BurstDuration
  intro tt f rep
  refine ⟨totalTime_burstKinds f tt rep, totalTime_documented_burstKinds f rep, fun hres => ?_⟩
  have hones := onesIn_le_of_reservedZero f hres
  have hmost : 54750 + 642 * (41 - onesIn f) + 1300 * onesIn f ≤ 102128 := by omega
  refine ⟨hones, by omega, hmost, ?_⟩
  have hrep : rep.toNat ≤ 255 := Nat.le_of_lt_succ rep.isLt
  rw [totalTime_documented_burstKinds]
  calc rep.toNat * (54750 + 642 * (41 - onesIn f) + 1300 * onesIn f) + 24000
      ≤ 255 * 102128 + 24000 := Nat.add_le_add_right (Nat.mul_le_mul hrep hmost) _
    _ = 26066640 := by norm_num

end Sys2Proof.Machine
end

section
/-! THEOREM. TRANSMIT run by itself: accepted, rejected, and not taken outside IDLE (spec/42_waveform_sequencer.md R91 to
R93). -/

namespace Sys2Proof.Machine

/-- In IDLE, TRANSMIT is the acceptance of its operands (R91; log 14). -/
theorem exec_transmit_of_idle {s : State} (hst : s.st = .idle) (c : Cmd) :
    exec (.transmit c.base c.idx c.pid c.act c.rep) s = .next (acceptCommand c s) := by
  simp [exec, execTransmit, hst]

/-- Settles O16: the step is acceptance, whose next state for a valid command is known whole. -/
theorem transmitAcceptsValidCommand : Obligations.TransmitAcceptsValidCommand := by
  unfold Obligations.TransmitAcceptsValidCommand
  intro c s hst hvalid
  rw [exec_transmit_of_idle hst, acceptCommand_of_cmdValid hvalid]

/-- Settles O17: the step is acceptance, whose next state for an invalid command is known whole. -/
theorem transmitRejectsInvalidCommand : Obligations.TransmitRejectsInvalidCommand := by
  unfold Obligations.TransmitRejectsInvalidCommand
  intro c s hst hinvalid
  rw [exec_transmit_of_idle hst, acceptCommand_of_not_cmdValid hinvalid]

/-- Settles O18: `cmd_ready` is the test for IDLE (R91). -/
theorem transmitNotAcceptedWhileBusy : Obligations.TransmitNotAcceptedWhileBusy := by
  unfold Obligations.TransmitNotAcceptedWhileBusy
  intro base idx pid act rep s hbusy
  simp only [exec, execTransmit, if_neg hbusy]

end Sys2Proof.Machine
end

section
/-! SUPPORT. Operations in a row, and the segment lists that the three emission operations run
(spec/42_waveform_sequencer.md R104 to R106). -/

namespace Sys2Proof.Machine

variable (s : State)

theorem runSegments_append (ks ls : List SegKind) (s : State) :
    runSegments (ks ++ ls) s = runSegments ls (runSegments ks s) := by
  induction ks generalizing s with
  | nil => rfl
  | cons k ks ih => exact ih (runSegment k s)

@[simp] theorem runSegments_frame (ks : List SegKind) : (runSegments ks s).frame = s.frame := by
  rw [runSegments_eq]

/-- EMIT_SYNC runs a sync burst (R104). -/
theorem exec_emitSync : exec .emitSync s = .next (runSegments syncBurst s) := rfl

/-- EMIT_BIT runs the cell of its frame position (R105). -/
theorem exec_emitBit (b : Fin 41) : exec (.emitBit b) s = .next (runSegments (bitCell (memReadFrame s.frame b)) s) := rfl

/-- EMIT_FRAME runs the cells of all positions (R106). -/
theorem exec_emitFrame : exec .emitFrame s = .next (runSegments (frameCells s.frame) s) := by
  simp only [exec, execEmitFrame]

/-- Segment operations in a row run their segments in a row. -/
theorem execAll_map_instr (ks : List SegKind) (s : State) :
    execAll (ks.map SegKind.instr) s = .next (runSegments ks s) := by
  induction ks generalizing s with
  | nil => rfl
  | cons k ks ih =>
    rw [List.map_cons, execAll, exec_segKind_instr]
    exact ih _

/-- EMIT_BITs in a row run their cells in a row. -/
theorem execAll_map_emitBit (bs : List (Fin 41)) (s : State) :
    execAll (bs.map Instr.emitBit) s =
      .next (runSegments (bs.flatMap fun b => bitCell (memReadFrame s.frame b.val)) s) := by
  induction bs generalizing s with
  | nil => rfl
  | cons b bs ih =>
    rw [List.map_cons, execAll, exec_emitBit, List.flatMap_cons, runSegments_append]
    simpa using ih (runSegments (bitCell (memReadFrame s.frame b)) s)

/-! ### The cells of a frame -/

variable (f : BitVec 41)

/-- The cells in the order of the positions 0 to 40 (R32). -/
theorem frameCells_eq_flatMap_finRange :
    frameCells f = (List.finRange 41).flatMap fun b => bitCell (memReadFrame f b.val) := by
  rw [frameCells, ← List.map_coe_finRange_eq_range, List.flatMap_map]

/-- The calls of a bit's cell: high for the bit's own time, low for the gap (R105). -/
theorem flatMap_segEvents_bitCell (tt : TimingTable) (b : Bool) :
    (bitCell b).flatMap (segEvents tt) = [.high, .sleep (if b then tt.one else tt.zero), .low, .sleep tt.gap] := by
  cases b <;> rfl

/-- The calls of the cells of `n` positions: four for each. -/
theorem length_flatMap_cells (tt : TimingTable) (l : List Nat) :
    ((l.flatMap fun i => bitCell (memReadFrame f i)).flatMap (segEvents tt)).length = 4 * l.length := by
  induction l with
  | nil => rfl
  | cons i l ih =>
    rw [List.flatMap_cons, List.flatMap_append, List.length_append, ih, flatMap_segEvents_bitCell, List.length_cons,
      List.length_cons (as := l), Nat.mul_succ, Nat.add_comm]
    rfl

/-- The four calls of position `i` stand at `4 i` (R106). -/
theorem take_drop_frameCells_events (tt : TimingTable) {i : Nat} (hi : i < 41) :
    (((frameCells f).flatMap (segEvents tt)).drop (4 * i)).take 4 =
      (bitCell (memReadFrame f i)).flatMap (segEvents tt) := by
  have hrange : List.range 41 = List.range i ++ i :: (List.range (40 - i)).map (i + 1 + ·) := by
    rw [show 41 = i + 1 + (40 - i) by omega, List.range_add, List.range_succ, List.append_assoc, List.singleton_append]
  have hbefore := length_flatMap_cells f tt (List.range i)
  rw [List.length_range] at hbefore
  rw [frameCells, hrange, List.flatMap_append, List.flatMap_append, ← hbefore, List.drop_left, List.flatMap_cons,
    List.flatMap_append, flatMap_segEvents_bitCell]
  rfl

/-- The last segment of a frame is a gap (R105, R106). -/
theorem getLast?_frameCells : (frameCells f).getLast? = some .gapL := by
  rw [frameCells, List.range_succ, List.flatMap_append, List.flatMap_singleton, List.getLast?_append]
  rfl

theorem length_frameCells : (frameCells f).length = 82 := by
  have hones := onesIn_le f
  have hsum := sum_map_frameCells f fun _ => 1
  rw [List.map_const', List.sum_replicate] at hsum
  simp only [smul_eq_mul] at hsum
  omega

end Sys2Proof.Machine
end

section
/-! THEOREM. The segments and the emission operations run by themselves. -/

namespace Sys2Proof.Machine

/-- Settles O19: each operation runs its segment, whose whole next state is known. -/
theorem segmentsDriveSleepAdvance : Obligations.SegmentsDriveSleepAdvance := by
  unfold Obligations.SegmentsDriveSleepAdvance
  intro s
  have hexec (k : SegKind) := (exec_segKind_instr k s).trans (congrArg Host.Outcome.next (runSegment_eq k s))
  exact ⟨hexec .syncH, hexec .syncL, hexec .bit0H, hexec .bit1H, hexec .gapL⟩

/-- Settles O20: the next state of six segments in a row, and that it is that of the six operations. -/
theorem emitSyncIsThreePairs : Obligations.EmitSyncIsThreePairs := by
  unfold Obligations.EmitSyncIsThreePairs
  intro s
  refine ⟨?nextState, ?expansion, by decide⟩
  case nextState =>
    have htime : totalTime s.cfg.tt syncBurst = 3 * (s.cfg.tt.syncHigh.toNat + s.cfg.tt.syncLow.toNat) :=
      sum_map_syncBurst _
    rw [exec_emitSync, runSegments_eq, htime]
    rfl
  case expansion => rw [exec_emitSync, ← execAll_map_instr]; rfl

/-- Settles O21: the next state of the two segments of the bit's cell, and that it is that of the two operations. -/
theorem emitBitIsHighThenGap : Obligations.EmitBitIsHighThenGap := by
  unfold Obligations.EmitBitIsHighThenGap
  rintro b s _ rfl
  refine ⟨?nextState, ?expansion, by decide, by decide⟩
  case nextState =>
    rw [exec_emitBit, runSegments_eq, flatMap_segEvents_bitCell]
    cases memReadFrame s.frame b <;> rfl
  case expansion =>
    rw [exec_emitBit, ← execAll_map_instr]
    cases memReadFrame s.frame b <;> rfl

/-- Settles O22: EMIT_FRAME runs the cells that the 41 EMIT_BITs run; their calls stand four by four, and their time is a
sum of weights over the frame. -/
theorem emitFrameIsFortyOneBits : Obligations.EmitFrameIsFortyOneBits := by
  unfold Obligations.EmitFrameIsFortyOneBits
  intro s
  have htime : totalTime s.cfg.tt (frameCells s.frame) =
      41 * s.cfg.tt.gap.toNat + (41 - onesIn s.frame) * s.cfg.tt.zero.toNat + onesIn s.frame * s.cfg.tt.one.toNat := by
    rw [totalTime, sum_map_frameCells, Nat.add_right_comm]
    rfl
  refine ⟨?expansion, (frameCells s.frame).flatMap (segEvents s.cfg.tt), ?nextState, ?calls, fun i hi => ?position⟩
  case expansion => rw [exec_emitFrame, execAll_map_emitBit, frameCells_eq_flatMap_finRange]
  case nextState =>
    have hne : frameCells s.frame ≠ [] := List.getLast?_isSome.mp (by rw [getLast?_frameCells]; rfl)
    rw [exec_emitFrame, runSegments_eq, htime, getLast?_frameCells, length_frameCells, if_neg hne]
    rfl
  case calls => exact length_flatMap_cells s.frame s.cfg.tt (List.range 41)
  case position => rw [take_drop_frameCells_events _ _ hi, flatMap_segEvents_bitCell]

end Sys2Proof.Machine
end

section
/-! SUPPORT. The restore as a whole next state (spec/42_waveform_sequencer.md R111). -/

namespace Sys2Proof.Machine

/-- The restore and the end of the command: what it writes, and that it writes nothing else (R111, R93; log 6). -/
theorem issueRestore_eq (s : State) :
    issueRestore s =
      { s with
          radioMode := if s.restoreHonoured then .normal else Config.radioModeAfterRestore s.draws
          draws := if s.restoreHonoured then s.draws else s.draws + 1
          radioRestoreReq := true
          result := .success
          cause := .none
          done := true
          st := .idle
          trace := s.trace ++ [.restore] } := by
  cases h : s.restoreHonoured <;> simp [issueRestore, restoreRadio, emit, h]

/-- RADIO_RESTORE is the restore (R111; log 15). -/
theorem exec_radioRestore (s : State) : exec .radioRestore s = .next (issueRestore s) := rfl

end Sys2Proof.Machine
end

section
/-! THEOREM. The system operations run by themselves. -/

namespace Sys2Proof.Machine

/-- Settles O23: each operation is its arc's named update; the restore's mode is a case split on whether it is honoured. -/
theorem systemOperationsTakeTheirArcs : Obligations.SystemOperationsTakeTheirArcs := by
  unfold Obligations.SystemOperationsTakeTheirArcs
  intro s
  refine ⟨rfl, rfl, rfl, fun hhonoured => ?_, fun hnot => ?_⟩
  · rw [exec_radioRestore, issueRestore_eq]
    simp [hhonoured]
  · rw [exec_radioRestore, issueRestore_eq]
    simp [hnot]

end Sys2Proof.Machine
end

section
/-! SUPPORT. The transitions of the FSM forwards: for each row of spec/42_waveform_sequencer.md R93 the answer of a step
that meets its condition. -/

namespace Sys2Proof.Machine

variable {s : State} {p : PortSample} {rest : List PortSample} {c : Cmd}

/-! ### IDLE -/

/-- A command presented in IDLE is accepted or rejected in that step (R91). -/
theorem stepIdle_of_cmd (hst : s.st = .idle) (hcmd : p.cmd = some (.cmd c)) :
    stepIdle p s = .next (acceptCommand c s) := by
  rw [← exec_transmit_of_idle hst]
  simp [stepIdle, hcmd]

/-- The first row: a valid command is accepted. -/
theorem step_of_valid_command (hslot : s.slot = none) (hst : s.st = .idle) (hinputs : s.inputs = p :: rest)
    (hrst : p.rst = false) (hcmd : p.cmd = some (.cmd c)) (hvalid : cmdValid c) :
    step s = .next (acceptedState c (dropSample (clearPulses s))) := by
  rw [step_of_idle hslot hst hinputs hrst, stepIdle_of_cmd (by simpa using hst) hcmd, acceptCommand_of_cmdValid hvalid]

/-- The second row: an invalid command is rejected. -/
theorem step_of_invalid_command (hslot : s.slot = none) (hst : s.st = .idle) (hinputs : s.inputs = p :: rest)
    (hrst : p.rst = false) (hcmd : p.cmd = some (.cmd c)) (hinvalid : ¬ cmdValid c) :
    step s = .next (rejectedState c (dropSample (clearPulses s))) := by
  rw [step_of_idle hslot hst hinputs hrst, stepIdle_of_cmd (by simpa using hst) hcmd,
    acceptCommand_of_not_cmdValid hinvalid]

/-- Nothing presented, nothing happens. -/
theorem step_of_nothing_presented (hslot : s.slot = none) (hst : s.st = .idle) (hinputs : s.inputs = p :: rest)
    (hrst : p.rst = false) (hcmd : p.cmd = none) : step s = .next (dropSample (clearPulses s)) := by
  rw [step_of_idle hslot hst hinputs hrst]
  simp [stepIdle, hcmd]

/-! ### ARMED -/

/-- A step in ARMED without a reset is ARMED's transition. -/
theorem step_of_armed (hslot : s.slot = none) (hst : s.st = .armed) (hrst : (samplePorts s).rst = false) :
    step s = stepArmed (samplePorts s) (dropSample (clearPulses s)) := by
  simp [step_of_empty hslot, fsmStep, hrst, hst]

/-- The answer `ok` opens the critical section. -/
theorem step_of_answer_ok (hslot : s.slot = none) (hst : s.st = .armed) (hrst : (samplePorts s).rst = false)
    (hok : (samplePorts s).enterOk = true) (hfail : (samplePorts s).enterFail = false) :
    step s = .next (enterCritical (answerOk (dropSample (clearPulses s)))) := by
  rw [step_of_armed hslot hst hrst, stepArmed, hok, hfail]
  rfl

/-- The answer `fail` takes the FAILED path. -/
theorem step_of_answer_fail (hslot : s.slot = none) (hst : s.st = .armed) (hrst : (samplePorts s).rst = false)
    (hok : (samplePorts s).enterOk = false) (hfail : (samplePorts s).enterFail = true) :
    step s = .next (raiseError .modeEntryError .none (answerFail (dropSample (clearPulses s)))) := by
  rw [step_of_armed hslot hst hrst, stepArmed, hok, hfail]

/-- No answer, and the wait goes on (log 7). -/
theorem step_of_no_answer (hslot : s.slot = none) (hst : s.st = .armed) (hrst : (samplePorts s).rst = false)
    (hok : (samplePorts s).enterOk = false) (hfail : (samplePorts s).enterFail = false) :
    step s = .next (dropSample (clearPulses s)) := by
  rw [step_of_armed hslot hst hrst, stepArmed, hok, hfail]

/-! ### CRITICAL_SECTION, EXIT_MODE, FAILED -/

/-- At the end of the burst the section is left. -/
theorem step_at_burst_end (hslot : s.slot = none) (hst : s.st = .criticalSection)
    (hrst : (samplePorts s).rst = false) (hpc : s.pc.toNat = nseg s.rep) :
    step s = .next (leaveCritical (dropSample (clearPulses s))) := by
  rw [step_of_criticalSection hslot hst hrst]
  simp [stepCritical, hpc, exec, execExclExit]

/-- Past the end, a condition not listed, the FSM stays (log 24). -/
theorem step_past_burst_end (hslot : s.slot = none) (hst : s.st = .criticalSection)
    (hrst : (samplePorts s).rst = false) (hpc : nseg s.rep < s.pc.toNat) :
    step s = .next (dropSample (clearPulses s)) := by
  rw [step_of_criticalSection hslot hst hrst]
  simp [stepCritical, hpc.ne', hpc.le]

/-- EXIT_MODE issues the restore. -/
theorem step_of_exitMode (hslot : s.slot = none) (hst : s.st = .exitMode) (hrst : (samplePorts s).rst = false) :
    step s = .next (issueRestore (dropSample (clearPulses s))) := by
  simp [step_of_empty hslot, fsmStep, hrst, hst, exec_radioRestore]

/-- FAILED reports the error. -/
theorem step_of_failed (hslot : s.slot = none) (hst : s.st = .failed) (hrst : (samplePorts s).rst = false) :
    step s = .next (finishFailed (dropSample (clearPulses s))) := by
  simp [step_of_empty hslot, fsmStep, hrst, hst]

/-! ### Which ports a transition reads -/

/-- Outside IDLE a transition reads the reset and the answer lines (R91). -/
theorem fsmStep_congr_of_not_idle {p p' : PortSample} (hst : s.st ≠ .idle) (hrst : p.rst = p'.rst)
    (hok : p.enterOk = p'.enterOk) (hfail : p.enterFail = p'.enterFail) : fsmStep p s = fsmStep p' s := by
  cases h : s.st with
  | idle => exact absurd h hst
  | armed => simp [fsmStep, stepArmed, h, hrst, hok, hfail]
  | criticalSection | exitMode | failed => simp [fsmStep, h, hrst]

/-- Outside ARMED it reads the reset and the command lines (R110). -/
theorem fsmStep_congr_of_not_armed {p p' : PortSample} (hst : s.st ≠ .armed) (hrst : p.rst = p'.rst)
    (hcmd : p.cmd = p'.cmd) : fsmStep p s = fsmStep p' s := by
  cases h : s.st with
  | armed => exact absurd h hst
  | idle => simp [fsmStep, stepIdle, h, hrst, hcmd]
  | criticalSection | exitMode | failed => simp [fsmStep, h, hrst]

end Sys2Proof.Machine
end

section
/-! THEOREM. The transition table of spec/42_waveform_sequencer.md R93, and where the ports count. -/

namespace Sys2Proof.Machine

/-- Settles O32: each row is its step, and each step's update is known whole. -/
theorem fsmFollowsTransitionTable : Obligations.FsmFollowsTransitionTable := by
  unfold Obligations.FsmFollowsTransitionTable
  intro s q p rest hslot hinputs hrst hq
  have hsample : samplePorts s = p := samplePorts_of_inputs hinputs
  have hrst' : (samplePorts s).rst = false := hsample ▸ hrst
  obtain rfl : dropSample (clearPulses s) = q := by
    rw [hq, dropSample, clearPulses, hinputs, List.tail_cons]
  refine ⟨fun c hst hcmd hvalid => ?valid, fun c hst hcmd hinvalid => ?invalid, fun hst hcmd => ?quiet,
    fun hst hok hfail => ?answerOk, fun hst hok hfail => ?answerFail, fun hst hok hfail => ?noAnswer,
    fun hst hpc hmid => ?levelWrite, fun hst hpc hmid => ?sleep, fun hst hpc => ?burstEnd, fun hst hpc => ?pastBurst,
    fun hst => ?restore, fun hst => ?finish⟩
  case valid => exact step_of_valid_command hslot hst hinputs hrst hcmd hvalid
  case invalid => exact step_of_invalid_command hslot hst hinputs hrst hcmd hinvalid
  case quiet => exact step_of_nothing_presented hslot hst hinputs hrst hcmd
  case answerOk => exact step_of_answer_ok hslot hst hrst' (hsample ▸ hok) (hsample ▸ hfail)
  case answerFail => exact step_of_answer_fail hslot hst hrst' (hsample ▸ hok) (hsample ▸ hfail)
  case noAnswer => exact step_of_no_answer hslot hst hrst' (hsample ▸ hok) (hsample ▸ hfail)
  case levelWrite => rw [step_at_segment_start hslot hst hrst' hpc hmid, openSegment_eq]; rfl
  case sleep => rw [step_at_segment_middle hslot hst hrst' hpc hmid, closeSegment_eq]; rfl
  case burstEnd => exact step_at_burst_end hslot hst hrst' hpc
  case pastBurst => exact step_past_burst_end hslot hst hrst' hpc
  case restore => rw [step_of_exitMode hslot hst hrst', issueRestore_eq]; rfl
  case finish => exact step_of_failed hslot hst hrst'

/-- Settles O34: the two scripts differ in lines that the transition does not read. -/
theorem portsIgnoredWhereNotRead : Obligations.PortsIgnoredWhereNotRead := by
  unfold Obligations.PortsIgnoredWhereNotRead
  intro s p rest cmd ok fail hslot
  have hstep (p' : PortSample) : step { s with inputs := p' :: rest } =
      fsmStep p' (dropSample (clearPulses { s with inputs := p' :: rest })) :=
    step_of_empty hslot
  refine ⟨fun hst => ?_, fun hst => ?_⟩
  · rw [hstep, hstep]
    exact fsmStep_congr_of_not_idle hst rfl rfl rfl
  · rw [hstep, hstep]
    exact fsmStep_congr_of_not_armed hst rfl rfl

end Sys2Proof.Machine
end

section
/-! SUPPORT. Runs of several steps: what steps take from the ports alone, the wait in ARMED, and a burst from a segment's
start to the restore (spec/42_waveform_sequencer.md R93, R110, R113). -/

namespace Sys2Proof.Machine

variable {s t : State}

/-- What `n` steps do before the FSM's transitions: the samples go past, and the request pulses fall with the first. -/
def passSamples (n : Nat) (s : State) : State :=
  { s with
      radioEnterReq := if n = 0 then s.radioEnterReq else false
      radioRestoreReq := if n = 0 then s.radioRestoreReq else false
      inputs := s.inputs.drop n }

@[simp] theorem passSamples_slot (n : Nat) (s : State) : (passSamples n s).slot = s.slot := rfl
@[simp] theorem passSamples_st (n : Nat) (s : State) : (passSamples n s).st = s.st := rfl
@[simp] theorem passSamples_inputs (n : Nat) (s : State) : (passSamples n s).inputs = s.inputs.drop n := rfl
@[simp] theorem passSamples_rep (n : Nat) (s : State) : (passSamples n s).rep = s.rep := rfl
@[simp] theorem passSamples_frame (n : Nat) (s : State) : (passSamples n s).frame = s.frame := rfl
@[simp] theorem passSamples_pc (n : Nat) (s : State) : (passSamples n s).pc = s.pc := rfl
@[simp] theorem passSamples_midSegment (n : Nat) (s : State) : (passSamples n s).midSegment = s.midSegment := rfl

theorem passSamples_zero (s : State) : passSamples 0 s = s := by
  simp [passSamples]

theorem passSamples_one (s : State) : passSamples 1 s = dropSample (clearPulses s) := by
  simp [passSamples, dropSample, clearPulses]

theorem passSamples_add (m n : Nat) (s : State) : passSamples (m + n) s = passSamples n (passSamples m s) := by
  by_cases hm : m = 0 <;> by_cases hn : n = 0 <;> simp [passSamples, hm, hn]

theorem passSamples_of_ne_zero {n : Nat} (h : n ≠ 0) (s : State) :
    passSamples n s = { s with radioEnterReq := false, radioRestoreReq := false, inputs := s.inputs.drop n } := by
  simp [passSamples, h]

section runSegments
variable (ks : List SegKind) (s : State)

@[simp] theorem runSegments_slot : (runSegments ks s).slot = s.slot := by rw [runSegments_eq]
@[simp] theorem runSegments_st : (runSegments ks s).st = s.st := by rw [runSegments_eq]
@[simp] theorem runSegments_inputs : (runSegments ks s).inputs = s.inputs := by rw [runSegments_eq]
@[simp] theorem runSegments_rep : (runSegments ks s).rep = s.rep := by rw [runSegments_eq]
@[simp] theorem runSegments_midSegment : (runSegments ks s).midSegment = s.midSegment := by rw [runSegments_eq]

/-- Inside a burst pc counts the segments (R17): NSEG is far below 2^15. -/
theorem toNat_pc_runSegments (h : s.pc.toNat + ks.length ≤ nseg s.rep) :
    (runSegments ks s).pc.toNat = s.pc.toNat + ks.length := by
  have hrep : s.rep.toNat < 256 := s.rep.isLt
  rw [nseg] at h
  rw [runSegments_eq]
  simp only [BitVec.toNat_add, BitVec.toNat_ofNat]
  omega

end runSegments

/-- Segments touch neither the ports nor the pulses. -/
theorem passSamples_runSegments (n : Nat) (ks : List SegKind) (s : State) :
    passSamples n (runSegments ks s) = runSegments ks (passSamples n s) := by
  rw [runSegments_eq, runSegments_eq]
  rfl

theorem passSamples_leaveCritical (n : Nat) (s : State) :
    passSamples n (leaveCritical s) = leaveCritical (passSamples n s) := rfl

/-- A run goes on from where a shorter one ends. -/
theorem runSteps_add_of_next {m : Nat} (n : Nat) (h : runSteps m s = .next t) : runSteps (m + n) s = runSteps n t := by
  induction m generalizing s with
  | zero => cases h; rw [Nat.zero_add]
  | succ m ih =>
    rw [runSteps] at h
    split at h
    next u hstep => rw [Nat.succ_add, runSteps_succ_of_step _ hstep, ih h]
    next => cases h
    next => cases h

theorem runSteps_one_of_step (h : step s = .next t) : runSteps 1 s = .next t :=
  runSteps_succ_of_step 0 h

/-! ### The wait in ARMED -/

/-- Where the samples to come hold no answer, this step sees none. -/
theorem samplePorts_of_noAnswer {n : Nat} (h : noAnswer (s.inputs.take (n + 1))) :
    (samplePorts s).rst = false ∧ (samplePorts s).enterOk = false ∧ (samplePorts s).enterFail = false := by
  unfold samplePorts
  split
  next p ps heq => exact h p (by simp [heq])
  next => exact ⟨rfl, rfl, rfl⟩

/-- With no answer among the next `n` samples, `n` steps in ARMED only let them go past (R110). -/
theorem runSteps_of_noAnswer (n : Nat) (hslot : s.slot = none) (hst : s.st = .armed) (h : noAnswer (s.inputs.take n)) :
    runSteps n s = .next (passSamples n s) := by
  induction n generalizing s with
  | zero => rw [runSteps, passSamples_zero]
  | succ n ih =>
    obtain ⟨hrst, hok, hfail⟩ := samplePorts_of_noAnswer h
    have hstep := step_of_no_answer hslot hst hrst hok hfail
    rw [← passSamples_one] at hstep
    have hrest : noAnswer ((passSamples 1 s).inputs.take n) := fun p hp => h p <| by
      rw [Nat.add_comm, List.take_add]
      exact List.mem_append_right _ hp
    rw [runSteps_succ_of_step n hstep, ih (s := passSamples 1 s) hslot hst hrest, Nat.add_comm, passSamples_add]

/-! ### The burst -/

theorem noReset_drop {ps : List PortSample} (n : Nat) (h : noReset ps) : noReset (ps.drop n) :=
  fun p hp => h p (List.mem_of_mem_drop hp)

/-- The rest of a burst from a position, as segments (R96). -/
def burstFrom (f : BitVec 41) (k n : Nat) : List SegKind := (List.range' k n).map (segAt f)

theorem burstFrom_succ (f : BitVec 41) (k n : Nat) : burstFrom f k (n + 1) = segAt f k :: burstFrom f (k + 1) n := rfl

theorem length_burstFrom (f : BitVec 41) (k n : Nat) : (burstFrom f k n).length = n := by
  rw [burstFrom, List.length_map, List.length_range']

/-- A whole burst. -/
theorem burstFrom_zero_nseg (f : BitVec 41) (rep : BitVec 8) : burstFrom f 0 (nseg rep) = burstKinds f rep := by
  rw [burstFrom, burstKinds, List.range_eq_range']

/-- The rest of a burst from a position, cut out of the whole. -/
theorem burstFrom_sub (f : BitVec 41) (k n : Nat) : burstFrom f k (n - k) = ((List.range n).drop k).map (segAt f) := by
  rw [burstFrom, List.range_eq_range', List.drop_range', Nat.mul_one, Nat.zero_add]

/-- A burst ends low (R103). -/
theorem getLast?_burstKinds (f : BitVec 41) (rep : BitVec 8) : (burstKinds f rep).getLast? = some .syncL := by
  rw [burstKinds_eq_nestedBurst, nestedBurst, List.getLast?_append]
  rfl

/-- From the start of a segment, `2 n` steps inside the burst run the next `n` segments, two calls each (R93, R7). -/
theorem runSteps_of_segments (n : Nat) (hslot : s.slot = none) (hst : s.st = .criticalSection)
    (hmid : s.midSegment = false) (hpc : s.pc.toNat + n ≤ nseg s.rep) (hno : noReset s.inputs) :
    runSteps (2 * n) s = .next (runSegments (burstFrom s.frame s.pc.toNat n) (passSamples (2 * n) s)) := by
  induction n generalizing s with
  | zero => rw [Nat.mul_zero, runSteps, passSamples_zero]; rfl
  | succ n ih =>
    have hlt : s.pc.toNat < nseg s.rep := by omega
    let k := segAt s.frame s.pc.toNat
    have htwo : runSteps 2 s = .next (runSegments [k] (passSamples 2 s)) := by
      rw [segmentTakesTwoCalls s hslot hst hlt hmid hno, ← passSamples_of_ne_zero (by decide), exec_segKind_instr]
      rfl
    have hnext : (runSegments [k] (passSamples 2 s)).pc.toNat = s.pc.toNat + 1 := toNat_pc_runSegments _ _ hlt
    have hrest := ih (s := runSegments [k] (passSamples 2 s)) (by simpa using hslot) (by simpa using hst)
      (by simpa using hmid) (by rw [hnext, runSegments_rep, passSamples_rep]; omega)
      (by simpa using noReset_drop 2 hno)
    rw [runSegments_frame, passSamples_frame, hnext, passSamples_runSegments, ← passSamples_add] at hrest
    calc runSteps (2 * (n + 1)) s
        = runSteps (2 * n) (runSegments [k] (passSamples 2 s)) := by
          rw [show 2 * (n + 1) = 2 + 2 * n by omega, runSteps_add_of_next _ htwo]
      _ = .next (runSegments (burstFrom s.frame s.pc.toNat (n + 1)) (passSamples (2 * (n + 1)) s)) := by
          rw [hrest, show 2 + 2 * n = 2 * (n + 1) by omega, ← runSegments_append, List.singleton_append, burstFrom_succ]

/-- From the start of a segment the burst runs to its end, the section is left and the restore issued (R93, R113). -/
theorem runSteps_of_criticalSection {n : Nat} (hslot : s.slot = none) (hst : s.st = .criticalSection)
    (hmid : s.midSegment = false) (hpc : s.pc.toNat + n = nseg s.rep) (hno : noReset s.inputs) :
    runSteps (2 * n + 2) s = .next (issueRestore (leaveCritical
      (runSegments (burstFrom s.frame s.pc.toNat n) (passSamples (2 * n + 2) s)))) := by
  have hburst := runSteps_of_segments n hslot hst hmid hpc.le hno
  have hlen : (burstFrom s.frame s.pc.toNat n).length = n := length_burstFrom _ _ _
  generalize burstFrom s.frame s.pc.toNat n = ks at hburst hlen ⊢
  have hend := step_at_burst_end (s := runSegments ks (passSamples (2 * n) s)) (by simpa using hslot)
    (by simpa using hst) (samplePorts_rst_of_noReset (by simpa using noReset_drop (2 * n) hno))
    (by rw [toNat_pc_runSegments _ _ (by simp [hlen, hpc]), hlen]; simpa using hpc)
  rw [← passSamples_one, passSamples_runSegments, ← passSamples_add] at hend
  have hexit := step_of_exitMode (s := leaveCritical (runSegments ks (passSamples (2 * n + 1) s)))
    (by simpa using hslot) rfl (samplePorts_rst_of_noReset (by simpa using noReset_drop (2 * n + 1) hno))
  rw [← passSamples_one, passSamples_leaveCritical, passSamples_runSegments, ← passSamples_add] at hexit
  rw [runSteps_add_of_next 2 hburst, runSteps_succ_of_step 1 hend, runSteps_one_of_step hexit]

/-- A whole critical section, from its entry to the end of the command: what it writes, and that it writes nothing else (R90,
R112, R113). -/
theorem runSteps_of_enterCritical (hslot : s.slot = none) (hno : noReset s.inputs) :
    runSteps (2 * nseg s.rep + 2) (enterCritical s) = .next
      { s with
          pc := BitVec.ofNat 15 (nseg s.rep)
          st := .idle
          excl := false
          result := .success
          cause := .none
          done := true
          lvl := false
          timer := 0
          midSegment := false
          radioEnterReq := false
          radioRestoreReq := true
          radioMode := if s.restoreHonoured then .normal else Config.radioModeAfterRestore s.draws
          draws := if s.restoreHonoured then s.draws else s.draws + 1
          inputs := s.inputs.drop (2 * nseg s.rep + 2)
          trace := s.trace ++ [.exclOn] ++ burstEvents s.cfg.tt s.frame s.rep ++ [.exclOff, .restore]
          elapsed := s.elapsed + totalTime s.cfg.tt (burstKinds s.frame s.rep) } := by
  have hrun := runSteps_of_criticalSection (s := enterCritical s) (n := nseg s.rep) hslot rfl rfl (Nat.zero_add _) hno
  have hkinds : burstFrom (enterCritical s).frame (enterCritical s).pc.toNat (nseg s.rep) = burstKinds s.frame s.rep :=
    burstFrom_zero_nseg s.frame s.rep
  have hne : burstKinds s.frame s.rep ≠ [] := List.getLast?_isSome.mp (by rw [getLast?_burstKinds]; rfl)
  have hlen : (burstKinds s.frame s.rep).length = nseg s.rep := by simp [burstKinds]
  rw [hrun, hkinds, issueRestore_eq, runSegments_eq, getLast?_burstKinds, if_neg hne, hlen]
  simp [leaveCritical, passSamples, enterCritical, emit, burstEvents, SegKind.level]

/-- Where that run ends: in IDLE with SUCCESS, all segments completed, the calls of the rest of the burst, C- and X made. -/
theorem runSteps_to_success {n : Nat} (hslot : s.slot = none) (hst : s.st = .criticalSection)
    (hmid : s.midSegment = false) (hpc : s.pc.toNat + n = nseg s.rep) (hno : noReset s.inputs) :
    ∃ t, runSteps (2 * n + 2) s = .next t ∧ t.st = .idle ∧ t.excl = false ∧ t.done = true ∧ t.result = .success ∧
      t.pc.toNat = nseg s.rep ∧ t.midSegment = false ∧
      t.trace = s.trace ++ (burstFrom s.frame s.pc.toNat n).flatMap (segEvents s.cfg.tt) ++ [.exclOff, .restore] := by
  refine ⟨_, runSteps_of_criticalSection hslot hst hmid hpc hno, issueRestore_st _, by simp, issueRestore_done _,
    issueRestore_result _, ?pc, by simpa using hmid, ?trace⟩
  case pc =>
    have hlen := length_burstFrom s.frame s.pc.toNat n
    rw [issueRestore_pc, leaveCritical_pc, toNat_pc_runSegments _ _ (by simp [hlen, hpc]), hlen]
    exact hpc
  case trace =>
    rw [issueRestore_trace, leaveCritical_trace, runSegments_eq]
    simp [passSamples]

end Sys2Proof.Machine
end

section
/-! THEOREM. Whole commands (spec/42_waveform_sequencer.md R90, R92, R94, R110, R113; the three shapes of
spec/20_memory.md R43). -/

namespace Sys2Proof.Machine

/-- Settles O44: the wait only lets samples go past. -/
theorem unansweredStaysArmed : Obligations.UnansweredStaysArmed := by
  unfold Obligations.UnansweredStaysArmed
  intro s n hslot hst hno
  have htake : noAnswer (s.inputs.take (n + 1)) := fun p hp => hno p (List.mem_of_mem_take hp)
  rw [runSteps_of_noAnswer (n + 1) hslot hst htake, passSamples_of_ne_zero n.succ_ne_zero]

/-- Settles O43: the rejection, then FAILED's return to IDLE. -/
theorem rejectedCommandMakesNoCall : Obligations.RejectedCommandMakesNoCall := by
  unfold Obligations.RejectedCommandMakesNoCall
  intro s c p₀ rest hslot hst hinvalid hinputs hrst hcmd hno
  have hreject := step_of_invalid_command hslot hst hinputs hrst hcmd hinvalid
  have hfinish := step_of_failed (s := rejectedState c (dropSample (clearPulses s))) hslot rfl
    (samplePorts_rst_of_noReset (by simpa [rejectedState, hinputs] using hno))
  rw [runSteps_succ_of_step 1 hreject, runSteps_one_of_step hfinish]
  simp [finishFailed, dropSample, clearPulses, rejectedState, hinputs]

section Answered
variable {s : State} {c : Cmd} {p₀ p₁ : PortSample} {waits rest : List PortSample}

/-- The state in which the controller's answer finds an accepted command: it has waited for `n` steps. -/
def awaiting (c : Cmd) (n : Nat) (s : State) : State := passSamples n (acceptedState c (passSamples 1 s))

/-- Acceptance and the wait for an answer (R93, R110). -/
theorem runSteps_of_acceptance (hslot : s.slot = none) (hst : s.st = .idle) (hvalid : cmdValid c)
    (hinputs : s.inputs = p₀ :: (waits ++ rest)) (hrst : p₀.rst = false) (hcmd : p₀.cmd = some (.cmd c))
    (hwaits : noAnswer waits) : runSteps (1 + waits.length) s = .next (awaiting c waits.length s) := by
  have haccept := step_of_valid_command hslot hst hinputs hrst hcmd hvalid
  rw [← passSamples_one] at haccept
  have htake : (acceptedState c (passSamples 1 s)).inputs.take waits.length = waits := by
    simp [acceptedState, hinputs]
  rw [runSteps_add_of_next _ (runSteps_one_of_step haccept),
    runSteps_of_noAnswer waits.length (s := acceptedState c (passSamples 1 s)) hslot rfl (htake.symm ▸ hwaits)]
  rfl

/-- The answer is the sample after the wait. -/
theorem awaiting_inputs (hinputs : s.inputs = p₀ :: (waits ++ rest)) : (awaiting c waits.length s).inputs = rest := by
  simp [awaiting, acceptedState, hinputs]

/-- An accepted command as the transition that takes the answer finds it: the samples up to the answer are past. -/
def answered (c : Cmd) (rest : List PortSample) (s : State) : State :=
  { acceptedState c s with radioEnterReq := false, radioRestoreReq := false, inputs := rest }

theorem dropSample_clearPulses_awaiting (hinputs : s.inputs = p₀ :: (waits ++ p₁ :: rest)) :
    dropSample (clearPulses (awaiting c waits.length s)) = answered c rest s := by
  rw [dropSample, clearPulses, awaiting_inputs hinputs]
  rfl

end Answered

/-- Settles O42: acceptance, the wait, the answer `fail`, and FAILED's return to IDLE. -/
theorem failedEntryEmitsNothing : Obligations.FailedEntryEmitsNothing := by
  unfold Obligations.FailedEntryEmitsNothing
  intro s c p₀ p₁ waits rest hslot hst hvalid hinputs hrst hcmd hwaits hrst' hok hfail hno
  have harmed := runSteps_of_acceptance hslot hst hvalid hinputs hrst hcmd hwaits
  have hsample := samplePorts_of_inputs (awaiting_inputs (c := c) hinputs)
  have hanswer := step_of_answer_fail (s := awaiting c waits.length s) hslot rfl (hsample ▸ hrst') (hsample ▸ hok)
    (hsample ▸ hfail)
  rw [dropSample_clearPulses_awaiting hinputs] at hanswer
  have hfinish := step_of_failed (s := raiseError .modeEntryError .none (answerFail (answered c rest s))) hslot rfl
    (samplePorts_rst_of_noReset hno)
  rw [show waits.length + 3 = 1 + waits.length + 2 by omega, runSteps_add_of_next 2 harmed,
    runSteps_succ_of_step 1 hanswer, runSteps_one_of_step hfinish]
  rfl

/-- Settles O41: acceptance, the wait, the answer `ok`, the burst of the built frame and the restore. -/
theorem commandRunsToSuccess : Obligations.CommandRunsToSuccess := by
  unfold Obligations.CommandRunsToSuccess
  rintro s c p₀ p₁ waits rest f hslot hst hvalid hinputs hrst hcmd hwaits hrst' hok hfail hno rfl
  have harmed := runSteps_of_acceptance hslot hst hvalid hinputs hrst hcmd hwaits
  have hsample := samplePorts_of_inputs (awaiting_inputs (c := c) hinputs)
  have hanswer := step_of_answer_ok (s := awaiting c waits.length s) hslot rfl (hsample ▸ hrst') (hsample ▸ hok)
    (hsample ▸ hfail)
  rw [dropSample_clearPulses_awaiting hinputs] at hanswer
  have hburst := runSteps_of_enterCritical (s := answerOk (answered c rest s)) hslot hno
  have hcalls : (answerOk (answered c rest s)).trace ++ [.exclOn] = s.trace ++ [.enter, .exclOn] := by
    simp [answered, acceptedState]
  rw [hcalls] at hburst
  rw [show waits.length + 2 * nseg c.rep + 4 = 1 + waits.length + (2 * nseg c.rep + 2 + 1) by omega,
    runSteps_add_of_next _ harmed, runSteps_succ_of_step _ hanswer]
  exact hburst

/-- Settles O45: from the start of a segment the burst runs on to the restore; from its middle, after its sleep. -/
theorem criticalSectionAlwaysEnds : Obligations.CriticalSectionAlwaysEnds := by
  unfold Obligations.CriticalSectionAlwaysEnds
  intro s hslot hst hpc hmid hno
  cases hinside : s.midSegment with
  | false =>
    have hrun := runSteps_to_success (n := nseg s.rep - s.pc.toNat) hslot hst hinside (by omega) hno
    simpa [burstFrom_sub] using hrun
  | true =>
    have hlt := hmid hinside
    have hclose := step_at_segment_middle hslot hst (samplePorts_rst_of_noReset hno) hlt hinside
    obtain ⟨n, hn⟩ : ∃ n, nseg s.rep - s.pc.toNat = n + 1 := ⟨nseg s.rep - s.pc.toNat - 1, by omega⟩
    have hsucc : (closeSegment (segAt s.frame s.pc.toNat) (dropSample (clearPulses s))).pc.toNat = s.pc.toNat + 1 := by
      rw [closeSegment_pc]
      exact toNat_pc_succ hlt
    obtain ⟨t, hrun, hst', hexcl, hdone, hresult, hpc', hmid', htrace⟩ := runSteps_to_success (n := n)
      (s := closeSegment (segAt s.frame s.pc.toNat) (dropSample (clearPulses s))) (by simpa using hslot)
      (by simpa using hst) (by simp) (by rw [hsucc, closeSegment_rep, dropSample_rep, clearPulses_rep]; omega)
      (by simpa using noReset_tail hno)
    refine ⟨t, ?run, hst', hexcl, hdone, hresult, by simpa using hpc', hmid', ?calls⟩
    case run =>
      rw [hn, show 2 * (n + 1) - true.toNat + 2 = 2 * n + 2 + 1 by rfl, runSteps_succ_of_step _ hclose, hrun]
    case calls =>
      rw [htrace, hsucc, ← burstFrom_sub, hn, burstFrom_succ]
      simp [segEvents]

end Sys2Proof.Machine
end

section
/-! SUPPORT. Two blocks side by side (spec/42_waveform_sequencer.md R109): what the calls to come depend on, and that
blocks which agree on it go on making the same calls. -/

namespace Sys2Proof.Machine

/-- The two blocks agree on all that the calls to come depend on: configuration, samples to come, ST; where a valid
command is in progress its repeat count and FRAME; in a burst the place in it. -/
structure SameCourse (a b : State) : Prop where
  slotEmpty : a.slot = none
  slotEmpty' : b.slot = none
  cfg : a.cfg = b.cfg
  inputs : a.inputs = b.inputs
  st : a.st = b.st
  operands : a.st = .armed ∨ a.st = .criticalSection → a.rep = b.rep ∧ a.frame = b.frame
  place : a.st = .criticalSection → a.pc = b.pc ∧ a.midSegment = b.midSegment

/-- From `a` and `b` the two outcomes are reached by the same calls in the same time, and the course is the same again; or
both are the same refusal. -/
inductive SameCalls (a b : State) : (o o' : Host.Outcome State Fault Refusal) → Prop
  | next {a' b' : State} (es : List Event) (time : Nat) (htrace : a'.trace = a.trace ++ es)
      (htrace' : b'.trace = b.trace ++ es) (htime : a'.elapsed = a.elapsed + time)
      (htime' : b'.elapsed = b.elapsed + time) (h : SameCourse a' b') : SameCalls a b (.next a') (.next b')
  | refused (r : Refusal) : SameCalls a b (.refused r) (.refused r)

variable {a b : State}

/-- Calls made before, alike by both, go in front. -/
theorem SameCalls.prepend {a₀ b₀ : State} {o o' : Host.Outcome State Fault Refusal} (es : List Event) (time : Nat)
    (htrace : a.trace = a₀.trace ++ es) (htrace' : b.trace = b₀.trace ++ es) (htime : a.elapsed = a₀.elapsed + time)
    (htime' : b.elapsed = b₀.elapsed + time) (h : SameCalls a b o o') : SameCalls a₀ b₀ o o' := by
  cases h with
  | refused r => exact .refused r
  | next es₂ time₂ htrace₂ htrace₂' htime₂ htime₂' hcourse =>
    exact .next (es ++ es₂) (time + time₂) (by simp [htrace₂, htrace]) (by simp [htrace₂', htrace'])
      (by omega) (by omega) hcourse

/-- In IDLE, EXIT_MODE and FAILED no register of an earlier command counts. -/
theorem SameCourse.of_registers_dead (h : SameCourse a b) {a' b' : State} (hslot : a'.slot = a.slot)
    (hslot' : b'.slot = b.slot) (hcfg : a'.cfg = a.cfg) (hcfg' : b'.cfg = b.cfg) (hinputs : a'.inputs = a.inputs)
    (hinputs' : b'.inputs = b.inputs) (hst : a'.st = b'.st)
    (hdead : ¬ (a'.st = .armed ∨ a'.st = .criticalSection)) : SameCourse a' b' where
  slotEmpty := hslot.trans h.slotEmpty
  slotEmpty' := hslot'.trans h.slotEmpty'
  cfg := by rw [hcfg, hcfg', h.cfg]
  inputs := by rw [hinputs, hinputs', h.inputs]
  st := hst
  operands := fun hlive => absurd hlive hdead
  place := fun hlive => absurd (.inr hlive) hdead

/-- What a step does before the FSM's transition leaves the agreement. -/
theorem SameCourse.dropSample_clearPulses (h : SameCourse a b) :
    SameCourse (dropSample (clearPulses a)) (dropSample (clearPulses b)) :=
  { h with inputs := congrArg List.tail h.inputs }

theorem SameCourse.samplePorts_eq (h : SameCourse a b) : samplePorts a = samplePorts b := by
  rw [samplePorts, samplePorts, h.inputs]

/-- The same command is accepted or rejected alike. -/
theorem SameCourse.sameCalls_acceptCommand (h : SameCourse a b) (c : Cmd) :
    SameCalls a b (.next (acceptCommand c a)) (.next (acceptCommand c b)) := by
  by_cases hvalid : cmdValid c
  · rw [acceptCommand_of_cmdValid hvalid, acceptCommand_of_cmdValid hvalid]
    exact .next [.enter] 0 rfl rfl rfl rfl
      { h with st := rfl, operands := fun _ => ⟨rfl, rfl⟩, place := fun hlive => by simp [acceptedState] at hlive }
  · rw [acceptCommand_of_not_cmdValid hvalid, acceptCommand_of_not_cmdValid hvalid]
    exact .next [] 0 (by simp [rejectedState]) (by simp [rejectedState]) rfl rfl
      (h.of_registers_dead rfl rfl rfl rfl rfl rfl rfl (by simp [rejectedState]))

/-- Where nothing happens the course stays. -/
theorem SameCourse.sameCalls_wait (h : SameCourse a b) : SameCalls a b (.next a) (.next b) :=
  .next [] 0 (by simp) (by simp) rfl rfl h

/-- In IDLE, by what the sample presents. -/
theorem SameCourse.sameCalls_stepIdle (h : SameCourse a b) (hst : a.st = .idle) (p : PortSample) :
    SameCalls a b (stepIdle p a) (stepIdle p b) := by
  cases hcmd : p.cmd with
  | none => simpa [stepIdle, hcmd] using h.sameCalls_wait
  | some q =>
    cases q with
    | cmd c =>
      rw [stepIdle_of_cmd hst hcmd, stepIdle_of_cmd (h.st ▸ hst) hcmd]
      exact h.sameCalls_acceptCommand c
    | rcmd r =>
      cases hbuilt : a.cfg.hasResolve with
      | false =>
        rw [stepIdle_of_rcmd_absent hcmd hbuilt, stepIdle_of_rcmd_absent hcmd (h.cfg ▸ hbuilt)]
        exact h.sameCalls_wait
      | true =>
        rw [stepIdle_of_rcmd_built hcmd hbuilt, stepIdle_of_rcmd_built hcmd (h.cfg ▸ hbuilt)]
        cases hres : resolveCmd a.cfg r with
        | some c =>
          rw [acceptResolved_of_some hres, acceptResolved_of_some (h.cfg ▸ hres)]
          exact h.sameCalls_acceptCommand c
        | none =>
          rw [acceptResolved_of_none hres, acceptResolved_of_none (h.cfg ▸ hres)]
          exact .next [] 0 (by simp) (by simp) rfl rfl (h.of_registers_dead rfl rfl rfl rfl rfl rfl rfl (by simp))

/-- In ARMED, by the controller's answer. -/
theorem SameCourse.sameCalls_stepArmed (h : SameCourse a b) (hst : a.st = .armed) (p : PortSample) :
    SameCalls a b (stepArmed p a) (stepArmed p b) := by
  unfold stepArmed
  split
  next => exact h.sameCalls_wait
  next =>
    exact .next [.exclOn] 0 rfl rfl rfl rfl
      { h with st := rfl, operands := fun _ => h.operands (.inl hst), place := fun _ => ⟨rfl, rfl⟩ }
  next =>
    exact .next [] 0 (by simp) (by simp) rfl rfl (h.of_registers_dead rfl rfl rfl rfl rfl rfl rfl (by simp))
  next => exact .refused _

/-- A sleep moves both blocks to the next place. -/
theorem SameCourse.closeSegment (h : SameCourse a b) (hst : a.st = .criticalSection) (k : SegKind) :
    SameCourse (closeSegment k a) (closeSegment k b) := by
  obtain ⟨hpc, -⟩ := h.place hst
  rw [closeSegment_eq, closeSegment_eq]
  exact { h with place := fun _ => ⟨congrArg (· + 1) hpc, rfl⟩ }

/-- In CRITICAL_SECTION, by the place in the burst. -/
theorem SameCourse.sameCalls_stepCritical (h : SameCourse a b) (hst : a.st = .criticalSection) :
    SameCalls a b (stepCritical a) (stepCritical b) := by
  obtain ⟨hrep, hframe⟩ := h.operands (.inr hst)
  obtain ⟨hpc, hmid⟩ := h.place hst
  unfold stepCritical
  rw [← hrep, ← hframe, ← hpc, ← hmid]
  split
  next =>
    split
    next =>
      exact .next [_] _ (closeSegment_trace ..) (by simp [h.cfg]) (closeSegment_elapsed ..) (by simp [h.cfg])
        (h.closeSegment hst _)
    next =>
      exact .next [_] 0 rfl rfl rfl rfl { h with operands := fun _ => ⟨hrep, hframe⟩, place := fun _ => ⟨hpc, rfl⟩ }
  next =>
    split
    next =>
      exact .next [.exclOff] 0 rfl rfl rfl rfl
        (h.of_registers_dead rfl rfl rfl rfl rfl rfl rfl (by simp))
    next => exact h.sameCalls_wait

/-- One transition on the same sample. -/
theorem SameCourse.sameCalls_fsmStep (h : SameCourse a b) (p : PortSample) :
    SameCalls a b (fsmStep p a) (fsmStep p b) := by
  unfold fsmStep
  split
  next =>
    exact .next [] 0 (by simp) (by simp) rfl rfl
      (h.of_registers_dead rfl rfl rfl rfl rfl rfl rfl (by simp [State.reset]))
  next =>
    rw [← h.st]
    cases hst : a.st with
    | idle => exact h.sameCalls_stepIdle hst p
    | armed => exact h.sameCalls_stepArmed hst p
    | criticalSection => exact h.sameCalls_stepCritical hst
    | exitMode =>
      exact .next [.restore] 0 (by simp) (by simp) (by simp) (by simp)
        (h.of_registers_dead (by simp) (by simp) (by simp) (by simp) (by simp) (by simp) rfl (by simp))
    | failed =>
      exact .next [] 0 (by simp) (by simp) rfl rfl (h.of_registers_dead rfl rfl rfl rfl rfl rfl rfl (by simp))

/-- One step. -/
theorem SameCourse.sameCalls_step (h : SameCourse a b) : SameCalls a b (step a) (step b) := by
  rw [step_of_empty h.slotEmpty, step_of_empty h.slotEmpty', ← h.samplePorts_eq]
  exact (h.dropSample_clearPulses.sameCalls_fsmStep (samplePorts a)).prepend [] 0 (by simp) (by simp) (by simp)
    (by simp)

/-- Any number of steps. -/
theorem SameCourse.sameCalls_runSteps (h : SameCourse a b) (n : Nat) : SameCalls a b (runSteps n a) (runSteps n b) := by
  induction n generalizing a b with
  | zero => exact h.sameCalls_wait
  | succ n ih =>
    have hstep := h.sameCalls_step
    rw [runSteps, runSteps]
    generalize step a = o, step b = o' at hstep
    cases hstep with
    | refused r => exact .refused r
    | next es time htrace htrace' htime htime' h' => exact (ih h').prepend es time htrace htrace' htime htime'

end Sys2Proof.Machine
end

section
/-! THEOREM. The calls are a function of the operands, the configuration and the answers. -/

namespace Sys2Proof.Machine

/-- Settles O46: in IDLE the course depends on configuration and samples alone, and every step keeps two blocks on one
course. -/
theorem traceIsFunctionOfInputs : Obligations.TraceIsFunctionOfInputs := by
  unfold Obligations.TraceIsFunctionOfInputs
  intro s₁ s₂ n hslot₁ hslot₂ hst₁ hst₂ hcfg hinputs
  have hcourse : SameCourse s₁ s₂ :=
    { slotEmpty := hslot₁, slotEmpty' := hslot₂, cfg := hcfg, inputs := hinputs, st := hst₁.trans hst₂.symm
      operands := by simp [hst₁], place := by simp [hst₁] }
  have hcalls := hcourse.sameCalls_runSteps n
  generalize runSteps n s₁ = o₁, runSteps n s₂ = o₂ at hcalls
  cases hcalls with
  | next es time htrace₁ htrace₂ htime₁ htime₂ h =>
    exact .inl ⟨_, _, es, rfl, rfl, htrace₁, htrace₂, h.st, by omega⟩
  | refused r => exact .inr ⟨r, rfl, rfl⟩

end Sys2Proof.Machine
end

section
/-! SUPPORT. Nominal time along the trace (spec/70_reset_and_hazards.md R162): what leads from one state to another by calls
whose sleeps are all the time that passes, and that each effect of an operation and each arc of R93 is such. -/

namespace Sys2Proof.Machine

/-- From `s` to `t` calls are appended to the trace, and nominal time advances by exactly the sleeps among them (R162). -/
def TimedBySleeps (s t : State) : Prop :=
  ∃ es, t.trace = s.trace ++ es ∧ t.elapsed = s.elapsed + (es.map Event.time).sum

variable {i : Instr} {p : PortSample} {s t : State}

/-- No call, no time. -/
theorem TimedBySleeps.of_no_call (htrace : t.trace = s.trace) (helapsed : t.elapsed = s.elapsed) : TimedBySleeps s t :=
  ⟨[], by simp [htrace], by simp [helapsed]⟩

/-- One call, its time. -/
theorem TimedBySleeps.of_call (e : Event) (htrace : t.trace = s.trace ++ [e])
    (helapsed : t.elapsed = s.elapsed + e.time) : TimedBySleeps s t :=
  ⟨[e], htrace, by simp [helapsed]⟩

/-- A level write takes no time. -/
@[simp] theorem time_levelWrite (v : Bool) : (if v then Event.high else Event.low).time = 0 := by
  cases v <;> rfl

/-- A sleep takes its operand's time. -/
@[simp] theorem time_sleep (d : BitVec 32) : (Event.sleep d).time = d.toNat := rfl

/-- The sleeps among the calls of segments take the segments' nominal time (R108). -/
theorem sum_time_segEvents (tt : TimingTable) (ks : List SegKind) :
    ((ks.flatMap (segEvents tt)).map Event.time).sum = totalTime tt ks := by
  induction ks with
  | nil => rfl
  | cons k ks ih =>
    have hk : ((segEvents tt k).map Event.time).sum = (tt.entry k).toNat := by simp [segEvents]
    simp [hk, ih, totalTime]

theorem timedBySleeps_acceptCommand (c : Cmd) (s : State) : TimedBySleeps s (acceptCommand c s) := by
  obtain ⟨_, -, heq⟩ | ⟨-, heq⟩ := acceptCommand_cases c s <;> rw [heq]
  · exact .of_no_call rfl rfl
  · exact .of_call .enter rfl rfl

theorem timedBySleeps_issueRestore (s : State) : TimedBySleeps s (issueRestore s) :=
  .of_call .restore (issueRestore_trace s) (issueRestore_elapsed s)

theorem timedBySleeps_runSegments (ks : List SegKind) (s : State) : TimedBySleeps s (runSegments ks s) :=
  ⟨ks.flatMap (segEvents s.cfg.tt), by rw [runSegments_eq], by rw [runSegments_eq, sum_time_segEvents]⟩

/-- Every operation run by itself takes the time of its sleeps. -/
theorem ExecEffect.timedBySleeps (h : ExecEffect i s t) : TimedBySleeps s t := by
  cases h with
  | returns | checks | busy => exact .of_no_call rfl rfl
  | accepts => exact timedBySleeps_acceptCommand _ s
  | segments ks => exact timedBySleeps_runSegments ks s
  | entersRadio => exact .of_call .enter rfl rfl
  | restoresRadio => exact timedBySleeps_issueRestore s
  | entersCritical => exact .of_call .exclOn rfl rfl
  | leavesCritical => exact .of_call .exclOff rfl rfl
  | writesLevel v => exact .of_call _ (memWriteGpio_trace ..) (by simp)
  | sleeps d => exact .of_call (.sleep d) rfl rfl

/-- Every arc of the FSM takes the time of its sleep, where it makes one. -/
theorem FsmArc.timedBySleeps (h : FsmArc p s t) : TimedBySleeps s t := by
  cases h with
  | idleWait | rejectCommand | rejectAction | armedWait | answeredFail | pastBurst | finish => exact .of_no_call rfl rfl
  | accept => exact .of_call .enter rfl rfl
  | answeredOk => exact .of_call .exclOn rfl rfl
  | levelWrite => exact .of_call _ (openSegment_trace ..) (by simp)
  | segmentEnd => exact .of_call (.sleep _) (closeSegment_trace ..) (closeSegment_elapsed ..)
  | burstEnd => exact .of_call .exclOff rfl rfl
  | restore => exact timedBySleeps_issueRestore s

end Sys2Proof.Machine
end

section
/-! THEOREM. Nominal time advances by exactly the sleeps. -/

namespace Sys2Proof.Machine

/-- Settles O49: a presented operation and an arc of R93 take the time of their sleeps, and a reset makes no call and takes
none. -/
theorem timeAdvancesBySleepsOnly : Obligations.TimeAdvancesBySleepsOnly := by
  unfold Obligations.TimeAdvancesBySleepsOnly
  intro s t hstep
  cases hslot : s.slot with
  | some q =>
    obtain ⟨i, -, heffect⟩ := step_cases_of_slot hslot hstep
    exact heffect.timedBySleeps
  | none =>
    obtain ⟨-, rfl⟩ | ⟨-, harc⟩ := step_cases_of_empty hslot hstep
    · exact TimedBySleeps.of_no_call (s := s) rfl rfl
    · exact harc.timedBySleeps

end Sys2Proof.Machine
end

section
/-! SUPPORT. The step on a sample that asserts reset (spec/70_reset_and_hazards.md R152), and the step in IDLE when the script
of samples has ended (log 2). -/

namespace Sys2Proof.Machine

variable {s : State}

/-- With reset asserted the step is the reset, in whatever state of the FSM (R152). -/
theorem step_of_reset (hslot : s.slot = none) (hrst : (samplePorts s).rst = true) :
    step s = .next (warmReset (dropSample (clearPulses s))) := by
  simp [step_of_empty hslot, fsmStep, hrst]

/-- In IDLE with no sample left nothing is presented, and nothing happens but the fall of the pulses. -/
theorem step_of_idle_of_script_ended (hslot : s.slot = none) (hst : s.st = .idle) (hinputs : s.inputs = []) :
    step s = .next (dropSample (clearPulses s)) := by
  have hquiet : samplePorts s = PortSample.quiet := by simp [samplePorts, hinputs]
  simp [step_of_empty hslot, hquiet, fsmStep, stepIdle, hst, PortSample.quiet]

end Sys2Proof.Machine
end

section
/-! THEOREM. The reset state, and reset during a command. -/

namespace Sys2Proof.Machine

/-- Settles O1: the values are the reset state's own, and in it the block is idle with nothing presented. -/
theorem resetLeavesIdleBlock : Obligations.ResetLeavesIdleBlock := by
  unfold Obligations.ResetLeavesIdleBlock
  have hquiet : step State.reset = .next State.reset := step_of_idle_of_script_ended rfl rfl rfl
  exact ⟨rfl, rfl, rfl, rfl, rfl, rfl, rfl, rfl, rfl, hquiet⟩

/-- Settles O3: reset comes before the FSM's rows, writes the reset values and makes no call. -/
theorem resetCutsAnyCommand : Obligations.ResetCutsAnyCommand := by
  unfold Obligations.ResetCutsAnyCommand
  intro s p rest hslot hinputs hrst
  have hstep := step_of_reset hslot (by rw [samplePorts_of_inputs hinputs, hrst])
  have hrest : (dropSample (clearPulses s)).inputs = rest := by simp [hinputs]
  exact ⟨_, hstep, rfl, rfl, rfl, rfl, rfl, rfl, rfl, rfl, rfl, rfl, rfl, hrest⟩

end Sys2Proof.Machine
end
